-- ==== Sys2Proof/Word.lean ====
section
/-! DEFINITION. The word types of the block: host bus words, and the two raw formats of spec/30_encoding.md. -/

namespace Sys2Proof

/-- A host register, and the value of a host access: 32 bits (R34, R45). -/
abbrev Word := BitVec 32

/-- A byte-wide field: SIZE and OFS of an operation word, PG_EDGES, ITER and the channel ids. -/
abbrev Byte := BitVec 8

/-- Format CMD (R61): the 32-bit value of a host write to the CMD register. -/
abbrev CmdWord := BitVec 32

/-- Format OPW (R62): the 56-bit operation word that names one step of the block. -/
abbrev OpWord := BitVec 56

/-- One operation as it is presented to the block, not yet decoded: a command word written to CMD (R61), or an
operation word (R62). The length of the word tells the two formats apart: each has one length (R61, R62). -/
inductive RawOp where
  | cmd (v : CmdWord)
  | opw (w : OpWord)
deriving DecidableEq, Repr

end Sys2Proof
end

