-- ==== Sys2Proof/Config.lean ====
section
/-! DEFINITION. The implementation parameters of R7 that are not registers, and the sizes that R43 fixes.
Every parameter of R7 that is a register stands in Machine/State.lean. W and BASE, the only two open parameters that
change a state transition (spec/92_eei_decisions.md), are fields of State that no step writes, so that every statement
about a state holds for all of their legal values; their values at reset stand here. -/

namespace Sys2Proof

/-- The counter width W at reset, less one: W = 16, the spec's default (R7, D2). -/
def Config.defaultWidthLess1 : Fin 16 := 15

/-- BASE at reset, in units of 128 bytes (R43: BASE is a multiple of 128).
DESIGN CHOICE 0 (notes/assumptions/2.md): BASE is an open platform parameter. -/
def Config.defaultBasePage : Nat := 0

/-- The size of the host register window in bytes (R43). -/
def Config.windowBytes : Nat := 128

/-- The one access width of the bus, in bytes (R45). -/
def Config.accessBytes : Nat := 4

/-- F_CLK, the block's clock in Hz: an open parameter, read by no state rule (R7, R8, D37). -/
opaque Config.fClk : Nat

/-- The numerator of the safety margin K, an open parameter read by no state rule (R7, R8, D37). -/
opaque Config.marginNum : Nat

/-- The denominator of the safety margin K (its example value 2.5 is a fraction: R77). -/
opaque Config.marginDen : Nat

/-- STAB_DELAY, a lower bound on time: an open parameter, read by no state rule (R8, R145, D28). -/
opaque Config.stabDelay : Nat

end Sys2Proof
end

