-- ==== Sys2Proof/Syntax.lean ====
section
/-! DEFINITION. The operations of the block: one constructor per row of spec/opcode_table.json. -/

namespace Sys2Proof

/-- One operation of the block (R13, R63, R65, R66).
The `cmd…` rows are host writes of a command word to CMD (format CMD, R61); the others are operation words
(format OPW, R62). The `seq…` rows with a state in their name are the step that SEQ takes in that state: they share
SEQ's operation word, and STATE, not the word, tells them apart (R66). -/
inductive Instr where
  /-- CMD NOP (R91). -/
  | cmdNop
  /-- CMD RUN: start one calibration cycle (R92). -/
  | cmdRun
  /-- CMD ARM: arm a manual window (R80). -/
  | cmdArm
  /-- CMD SNAPSHOT: manual snapshot (R93). -/
  | cmdSnapshot
  /-- CMD MEASURE: manual measure (R111). -/
  | cmdMeasure
  /-- CMD ADJUST: manual Huff-n-Puff step (R113). -/
  | cmdAdjust
  /-- Any other CMD value: a reserved opcode, or a nonzero RSVD field (R64). -/
  | cmdReserved (v : CmdWord)
  /-- REF_TICK: one counted edge of the reference signal (R71). -/
  | refTick
  /-- PPS_RISE: a rising transition of the PPS line (R83). -/
  | ppsRise
  /-- PPS_FALL: a falling transition of the PPS line (R84). -/
  | ppsFall
  /-- TIMEOUT: the platform's sampling-timeout strobe (R101). -/
  | timeout
  /-- RESET: the block reset input (R133). -/
  | reset
  /-- BUS_RD: a host read of `size` bytes at byte offset `ofs` of the window (R48). -/
  | busRd (size ofs : Byte)
  /-- BUS_WR: a host write of `data`, `size` bytes at byte offset `ofs` of the window (R49). -/
  | busWr (size ofs : Byte) (data : Word)
  /-- SEQ: one sequencer step, chosen by STATE (R66). -/
  | seq
  /-- SEQ in IDLE (R94). -/
  | seqIdle
  /-- SEQ in ARMED (R95). -/
  | seqArmed
  /-- SEQ in WAITING_FOR_WINDOW (R96). -/
  | seqWaiting
  /-- SEQ in MEASURED (R97). -/
  | seqMeasured
  /-- SEQ in ADJUSTING (R98). -/
  | seqAdjusting
  /-- SEQ in FAULTED (R99). -/
  | seqFaulted
  /-- SEQ in DONE (R100). -/
  | seqDone
deriving DecidableEq, Repr

end Sys2Proof
end

