-- ==== Sys2Proof/WellFormed.lean ====
section
/-! DEFINITION. Which instruction terms name an operation the hardware can receive. -/

namespace Sys2Proof

/-- The commands of R63: RSVD is 0 and OPCODE is one of 0x00 to 0x05. As an unsigned number such a word is at most 5. -/
def isAssignedCommand (v : CmdWord) : Bool := v.toNat ≤ 5

/-- A bus offset lies in the window 0x00..0x7F (R43, R62); an access elsewhere is no access to this block (R44). -/
def offsetInWindow (ofs : Byte) : Bool := ofs.toNat < Config.windowBytes

/-- The operand checks: an offset inside the window, and a reserved command word that is none of the six commands.
SIZE is free: a size other than 4 is a legal step that ends in a bus error (R45). -/
def Instr.wellFormed : Instr → Bool
  | .cmdReserved v => !isAssignedCommand v
  | .busRd _ ofs => offsetInWindow ofs
  | .busWr _ ofs _ => offsetInWindow ofs
  | .cmdNop | .cmdRun | .cmdArm | .cmdSnapshot | .cmdMeasure | .cmdAdjust => true
  | .refTick | .ppsRise | .ppsFall | .timeout | .reset => true
  | .seq | .seqIdle | .seqArmed | .seqWaiting | .seqMeasured | .seqAdjusting | .seqFaulted | .seqDone => true

end Sys2Proof
end

