-- ==== Sys2Proof/Decode.lean ====
section
/-! DEFINITION. The decoder of command words and operation words (spec/30_encoding.md), and the encoder beside it. -/

namespace Sys2Proof

/-- Why an operation word names no step of the block (R62, R44). -/
inductive DecodeError where
  /-- CLASS is not in the table of R65 (I6: refuse). -/
  | unlistedClass (cls : Byte)
  /-- SIZE, OFS or DATA is nonzero where format OPW says 0 (R62, I6: refuse). -/
  | nonzeroField (cls : Byte)
  /-- OFS is above 0x7F: the access is not an access to this block (R44, I11: refuse). -/
  | offsetOutsideWindow (ofs : Byte)
deriving DecidableEq, Repr

/-! ### Fields (R61, R62) -/

/-- OPCODE, bits [7:0] of a command word. -/
def cmdOpcode (v : CmdWord) : Byte := v.extractLsb' 0 8

/-- RSVD, bits [31:8] of a command word. -/
def cmdRsvd (v : CmdWord) : BitVec 24 := v.extractLsb' 8 24

/-- CLASS, bits [55:48] of an operation word. -/
def opwClass (w : OpWord) : Byte := w.extractLsb' 48 8

/-- SIZE, bits [47:40] of an operation word. -/
def opwSize (w : OpWord) : Byte := w.extractLsb' 40 8

/-- OFS, bits [39:32] of an operation word. -/
def opwOfs (w : OpWord) : Byte := w.extractLsb' 32 8

/-- DATA, bits [31:0] of an operation word. -/
def opwData (w : OpWord) : Word := w.extractLsb' 0 32

/-! ### Decoding -/

/-- The command map of R63 and R64: every value decodes, the reserved ones to `cmdReserved`. -/
def decodeCmd (v : CmdWord) : Instr :=
  if cmdRsvd v ≠ 0 then .cmdReserved v
  else if cmdOpcode v = 0x00 then .cmdNop
  else if cmdOpcode v = 0x01 then .cmdRun
  else if cmdOpcode v = 0x02 then .cmdArm
  else if cmdOpcode v = 0x03 then .cmdSnapshot
  else if cmdOpcode v = 0x04 then .cmdMeasure
  else if cmdOpcode v = 0x05 then .cmdAdjust
  else .cmdReserved v

/-- An operation whose SIZE, OFS and DATA must all be 0 (R62). -/
def decodeBare (w : OpWord) (i : Instr) : Except DecodeError Instr :=
  if opwSize w = 0 ∧ opwOfs w = 0 ∧ opwData w = 0 then .ok i else .error (.nonzeroField (opwClass w))

/-- BUS_RD: SIZE and OFS are operands, DATA must be 0 (R62), and OFS must lie in the window (R44). -/
def decodeBusRd (w : OpWord) : Except DecodeError Instr :=
  if opwData w ≠ 0 then .error (.nonzeroField (opwClass w))
  else if offsetInWindow (opwOfs w) then .ok (.busRd (opwSize w) (opwOfs w))
  else .error (.offsetOutsideWindow (opwOfs w))

/-- BUS_WR: SIZE, OFS and DATA are operands (R62), and OFS must lie in the window (R44). -/
def decodeBusWr (w : OpWord) : Except DecodeError Instr :=
  if offsetInWindow (opwOfs w) then .ok (.busWr (opwSize w) (opwOfs w) (opwData w))
  else .error (.offsetOutsideWindow (opwOfs w))

/-- The operation classes of R65. The word of CLASS 0x20 is SEQ: which sequencer step it is, STATE tells (R66). -/
def decodeOpw (w : OpWord) : Except DecodeError Instr :=
  if opwClass w = 0x01 then decodeBare w .refTick
  else if opwClass w = 0x02 then decodeBare w .ppsRise
  else if opwClass w = 0x03 then decodeBare w .ppsFall
  else if opwClass w = 0x04 then decodeBare w .timeout
  else if opwClass w = 0x05 then decodeBare w .reset
  else if opwClass w = 0x10 then decodeBusRd w
  else if opwClass w = 0x11 then decodeBusWr w
  else if opwClass w = 0x20 then decodeBare w .seq
  else .error (.unlistedClass (opwClass w))

/-- The decoder: total on every word of either format. -/
def decode : RawOp → Except DecodeError Instr
  | .cmd v => .ok (decodeCmd v)
  | .opw w => decodeOpw w

/-! ### Encoding -/

/-- The fields of an operation word put together (R62). -/
def opwOf (cls size ofs : Byte) (data : Word) : OpWord := cls ++ size ++ ofs ++ data

/-- The word of an instruction, in its own format: the `cmd…` rows in format CMD, the others in format OPW.
The rows that name a sequencer state have SEQ's word (R66; spec/opcode_table.json). -/
def encode : Instr → RawOp
  | .cmdNop => .cmd 0x00000000
  | .cmdRun => .cmd 0x00000001
  | .cmdArm => .cmd 0x00000002
  | .cmdSnapshot => .cmd 0x00000003
  | .cmdMeasure => .cmd 0x00000004
  | .cmdAdjust => .cmd 0x00000005
  | .cmdReserved v => .cmd v
  | .refTick => .opw (opwOf 0x01 0 0 0)
  | .ppsRise => .opw (opwOf 0x02 0 0 0)
  | .ppsFall => .opw (opwOf 0x03 0 0 0)
  | .timeout => .opw (opwOf 0x04 0 0 0)
  | .reset => .opw (opwOf 0x05 0 0 0)
  | .busRd size ofs => .opw (opwOf 0x10 size ofs 0)
  | .busWr size ofs data => .opw (opwOf 0x11 size ofs data)
  | .seq | .seqIdle | .seqArmed | .seqWaiting | .seqMeasured | .seqAdjusting | .seqFaulted | .seqDone =>
    .opw (opwOf 0x20 0 0 0)

/-- The operation word of an instruction: a command is a BUS_WR of the command word to offset 0x04, size 4 (R69). -/
def opwOfInstr (i : Instr) : OpWord :=
  match encode i with
  | .cmd v => opwOf 0x11 0x04 0x04 v
  | .opw w => w

/-- The instruction that the word of `i` decodes to: `i` itself, but SEQ for the rows that name SEQ in one state. -/
def Instr.decodedAs : Instr → Instr
  | .seqIdle | .seqArmed | .seqWaiting | .seqMeasured | .seqAdjusting | .seqFaulted | .seqDone => .seq
  | .cmdNop => .cmdNop
  | .cmdRun => .cmdRun
  | .cmdArm => .cmdArm
  | .cmdSnapshot => .cmdSnapshot
  | .cmdMeasure => .cmdMeasure
  | .cmdAdjust => .cmdAdjust
  | .cmdReserved v => .cmdReserved v
  | .refTick => .refTick
  | .ppsRise => .ppsRise
  | .ppsFall => .ppsFall
  | .timeout => .timeout
  | .reset => .reset
  | .busRd size ofs => .busRd size ofs
  | .busWr size ofs data => .busWr size ofs data
  | .seq => .seq

/-! ### The table's words -/

/-- A word of spec/opcode_table.json, laid out in its format: a row of 32 bits is a command word, a longer one an
operation word. The block stores no instructions (R17, R43), so there is no byte layout to pass through. -/
def rawOfTable (nbits w : Nat) : RawOp :=
  if nbits ≤ 32 then .cmd (BitVec.ofNat 32 w) else .opw (BitVec.ofNat 56 w)

/-- The instruction the decoder reads from a word of spec/opcode_table.json. -/
def decodeTableWord (nbits w : Nat) : Option Instr :=
  match decode (rawOfTable nbits w) with
  | .ok i => some i
  | .error _ => none

end Sys2Proof
end

