-- ==== Sys2Proof/Machine/State.lean ====
section
/-! DEFINITION. The state of the block (spec/10_state.md), its value after reset, and the reasons a step can stop. -/

namespace Sys2Proof.Machine

/-- An output record (R12). The block appends records to `out` and never reads them. -/
inductive OutRecord where
  /-- `SetCorrection(value)`: the synthesizer's setCorrectionFactor. -/
  | setCorrection (value : Word)
  /-- `SetFrequency(channel, freq)`: the synthesizer's setChannelFrequency, in hundredths of Hz. -/
  | setFrequency (channel : Byte) (freq : Word)
  /-- `EnableChannel(channel, on)`: the synthesizer's enableChannel. -/
  | enableChannel (channel : Byte) (on : Bool)
  /-- `LogIter(iter, meas, prev, new)`: the per-iteration log record. -/
  | logIter (iter : Byte) (meas : BitVec 64) (prev new : Word)
  /-- `LogFault(code, iter)`: the report of a fault. -/
  | logFault (code : BitVec 4) (iter : Byte)
deriving DecidableEq, Repr

/-- The response that ends a host access (R45, R46, R48, R49). -/
inductive BusResponse where
  /-- The value a read returns (R48). -/
  | readData (v : Word)
  /-- `Ok`: the end of an aligned 4-byte write (R49). -/
  | writeOk
  /-- The bus error response of an access of size ≠ 4 or of a misaligned one (R45, R46, R119). -/
  | busError
deriving DecidableEq, Repr

/-- The nine named sequencer states of R31. -/
inductive SeqState where
  | stopped | idle | armed | waitingForWindow | measured | adjusting | faulted | done | cleanup
deriving DecidableEq, Repr

/-- All the state of the block, under the spec's names, and three fields of the model's own at the end.
Registers of 1 bit are `Bool`; CORR and PREV_CORR hold two's-complement patterns. -/
structure State where
  /-- W - 1, the counter width less one: legal W are 1..16 (R7). A synthesis-time parameter: no step writes it. -/
  widthLess1 : Fin 16
  /-- BASE / 128 (R7, R43). A platform parameter: no step writes it. -/
  basePage : Nat
  /-- RC_COUNT, W bits (R18), in the low bits of the widest legal counter. -/
  rcCount : BitVec 16
  /-- RC_OVF, the overflow tally (R19). -/
  rcOvf : BitVec 32
  /-- RC_RUN, the counter's clock-input enable (R20). -/
  rcRun : Bool
  /-- PG_EDGES, qualifying edges since the arm (R21). -/
  pgEdges : Byte
  /-- PG_TRIG_EN, the gate's trigger enable (R22). -/
  pgTrigEn : Bool
  /-- PG_TOGGLE, the toggle flag (R23). -/
  pgToggle : Bool
  /-- PG_COMPLETE, window complete (R24). -/
  pgComplete : Bool
  /-- SNAP_RAW, W bits (R26), in the low bits of the widest legal counter. -/
  snapRaw : BitVec 16
  /-- SNAP_OVF (R26). -/
  snapOvf : BitVec 32
  /-- MEAS, the last measured frequency, hundredths of Hz (R27). -/
  meas : BitVec 64
  /-- CORR, the committed correction factor (R28). -/
  corr : Word
  /-- PREV_CORR (R29). -/
  prevCorr : Word
  /-- ITER, the iteration index (R30). -/
  iter : Byte
  /-- STATE, the sequencer state's 4 bits (R31); 9..15 are unused encodings. -/
  seqState : BitVec 4
  /-- FAULT.SLF, signal loss (R33). -/
  slf : Bool
  /-- FAULT.STF, sampling timeout (R33). -/
  stf : Bool
  /-- FAULT.HIF, hardware init (R33). -/
  hif : Bool
  /-- FAULT.ILL, illegal command or access (R33). -/
  ill : Bool
  /-- FAULT.ABORT_CAUSE (R33). -/
  abortCause : BitVec 4
  /-- CTRL[3:0]: EDGE_MODE, ABORT_ON_LOSS, TIMEOUT_EN, LOG_EN from bit 0 up (R34, R35). -/
  ctrl : BitVec 4
  /-- TARGET (R36). -/
  target : Word
  /-- STEP[15:0] (R37). -/
  stepSize : BitVec 16
  /-- ITER_COUNT[7:0] (R37). -/
  iterCount : Byte
  /-- WINDOW_N[7:0] (R37). -/
  windowN : Byte
  /-- SCALE[15:0] (R37). -/
  scale : BitVec 16
  /-- CHAN.CAL_CH (R38). -/
  calCh : Byte
  /-- CHAN.PARK_CH (R38). -/
  parkCh : Byte
  /-- PARK_FREQ (R38). -/
  parkFreq : Word
  /-- The output port `out`, oldest record first: the observable trace (R12, R41). -/
  out : List OutRecord
  /-- The model's own: the response to the latest host access, none before the first (notes/assumptions/4.md). -/
  busResponse : Option BusResponse
  /-- The model's own: the operations the environment presents next, in the total order it chose (R13; notes/assumptions/3.md). -/
  pending : List RawOp
deriving DecidableEq, Repr

/-- Why the machine stops. The faults of 60_exceptions.md are no such reasons: they are recorded in FAULT and the block
goes on (R117, R118, R119), so no instruction ends in a fault. -/
inductive Fault where
  /-- Raised by `step` alone, where no operation is presented and no sequencer step is enabled: R13 then gives the
  block no step (I13 'stuck'). Safe: the model stops where the hardware waits. -/
  | stuck
deriving DecidableEq, Repr

/-- Why an operation has no meaning here. -/
inductive Refusal where
  /-- Raised by an arm of `exec` whose instruction has no meaning yet. Safe. -/
  | notModelled (mnemonic : String)
  /-- Raised by `step`: the presented word names no step of the block (R62, I6: 'refuse'). Safe. -/
  | noSuchOperation (e : DecodeError)
  /-- Raised by a bus access outside BASE..BASE+0x7F: not an access to this block (R44, I11: 'refuse'). Safe. -/
  | accessOutsideWindow
  /-- Raised by a SEQ operation that is not enabled in the current STATE: no such step exists (R65, R66, R96, R100). Safe. -/
  | seqNotEnabled
  /-- Raised by SEQ where STATE holds one of the unused encodings 9..15 (R66, I5: 'a model may refuse'). Safe. -/
  | seqStateUnused
deriving DecidableEq, Repr

/-- The state right after reset and at power-on (R133, R134), with the parameters of Config.lean, an empty output
port (R134), no host access yet and nothing presented. -/
def State.reset : State where
  widthLess1 := Config.defaultWidthLess1
  basePage := Config.defaultBasePage
  rcCount := 0
  rcOvf := 0
  rcRun := false
  pgEdges := 0
  pgTrigEn := false
  pgToggle := false
  pgComplete := false
  snapRaw := 0
  snapOvf := 0
  meas := 0
  corr := 0
  prevCorr := 0
  iter := 0
  seqState := 0
  slf := false
  stf := false
  hif := false
  ill := false
  abortCause := 0
  ctrl := 0b1010
  target := 3200000
  stepSize := 50
  iterCount := 24
  windowN := 11
  scale := 10
  calCh := 0
  parkCh := 0
  parkFreq := 0
  out := []
  busResponse := none
  pending := []

end Sys2Proof.Machine
end

