-- ==== Sys2Proof/Machine/Flags.lean ====
section
/-! DEFINITION. The derived flags and packed views: BUSY and LOCKED (R32), the CTRL bits (R35), the STATUS word (R39),
the FAULT word (R34, R48) and the encoding of STATE (R31). -/

namespace Sys2Proof.Machine

/-- The encoding of a sequencer state in STATE (R31). -/
def SeqState.bits : SeqState → BitVec 4
  | .stopped => 0
  | .idle => 1
  | .armed => 2
  | .waitingForWindow => 3
  | .measured => 4
  | .adjusting => 5
  | .faulted => 6
  | .done => 7
  | .cleanup => 8

/-- The sequencer state that STATE encodes; none for the unused 9..15 (R31). -/
def SeqState.ofBits (b : BitVec 4) : Option SeqState :=
  if b = 0 then some .stopped
  else if b = 1 then some .idle
  else if b = 2 then some .armed
  else if b = 3 then some .waitingForWindow
  else if b = 4 then some .measured
  else if b = 5 then some .adjusting
  else if b = 6 then some .faulted
  else if b = 7 then some .done
  else if b = 8 then some .cleanup
  else none

/-- BUSY: STATE is one of the values 1..7 (R32). -/
def State.busy (s : State) : Bool := 1 ≤ s.seqState.toNat && s.seqState.toNat ≤ 7

/-- LOCKED: BUSY or PG_TRIG_EN (R32). -/
def State.locked (s : State) : Bool := s.busy || s.pgTrigEn

/-- CTRL.EDGE_MODE: false is true-edge, true is toggle-synthesized (R35). -/
def State.edgeMode (s : State) : Bool := s.ctrl.getLsbD 0

/-- CTRL.ABORT_ON_LOSS (R35). -/
def State.abortOnLoss (s : State) : Bool := s.ctrl.getLsbD 1

/-- CTRL.TIMEOUT_EN (R35). -/
def State.timeoutEn (s : State) : Bool := s.ctrl.getLsbD 2

/-- CTRL.LOG_EN (R35). -/
def State.logEn (s : State) : Bool := s.ctrl.getLsbD 3

/-- A flag as bit `k` of a host word. -/
def flagBit (b : Bool) (k : Nat) : Word := (BitVec.ofBool b).setWidth 32 <<< k

/-- The STATUS view (R39). -/
def State.statusWord (s : State) : Word :=
  (s.pgEdges.setWidth 32 <<< 16) ||| flagBit s.pgToggle 8 ||| flagBit s.rcRun 7 ||| flagBit s.pgTrigEn 6
    ||| flagBit s.pgComplete 5 ||| flagBit s.busy 4 ||| s.seqState.setWidth 32

/-- The FAULT view (R34, R48 at 0x0C). -/
def State.faultWord (s : State) : Word :=
  (s.abortCause.setWidth 32 <<< 4) ||| flagBit s.ill 3 ||| flagBit s.hif 2 ||| flagBit s.stf 1 ||| flagBit s.slf 0

/-- A sequencer step is enabled: always in IDLE, ARMED, MEASURED, ADJUSTING, FAULTED and DONE, in WAITING_FOR_WINDOW
exactly when PG_COMPLETE = 1, never in STOPPED and CLEANUP (R66, R94 to R100). -/
def State.seqEnabled (s : State) : Bool :=
  match SeqState.ofBits s.seqState with
  | some .idle | some .armed | some .measured | some .adjusting | some .faulted | some .done => true
  | some .waitingForWindow => s.pgComplete
  | some .stopped | some .cleanup => false
  | none => false

end Sys2Proof.Machine
end

