-- ==== Sys2Proof/Machine/Operands.lean ====
section
/-! DEFINITION. The operand forms: the parameters W, M and BASE (R7), the host registers and their addresses (R34, R43),
what a read of each returns (R48) and how a written value is cut into it (R50, R67). -/

namespace Sys2Proof.Machine

/-- W, the counter width: 1..16 (R7). -/
def State.width (s : State) : Nat := s.widthLess1.val + 1

/-- M = 2^W, the counter modulus (R7, C3). -/
def State.modulus (s : State) : Nat := 2 ^ s.width

/-- BASE, a multiple of 128 (R43). -/
def State.base (s : State) : Nat := Config.windowBytes * s.basePage

/-- The registers of the host window (R34); `reserved` stands for every offset of 0x48..0x7C. -/
inductive Reg where
  | ctrl | cmd | status | fault | target | step | iterCount | windowN | scale | chan | parkFreq | corr
  | prevCorr | iter | snapRaw | snapOvf | measLo | measHi | reserved
deriving DecidableEq, Repr

/-- The register at an aligned byte offset of the window (R34). -/
def regAt (o : Nat) : Reg :=
  if o = 0x00 then .ctrl
  else if o = 0x04 then .cmd
  else if o = 0x08 then .status
  else if o = 0x0C then .fault
  else if o = 0x10 then .target
  else if o = 0x14 then .step
  else if o = 0x18 then .iterCount
  else if o = 0x1C then .windowN
  else if o = 0x20 then .scale
  else if o = 0x24 then .chan
  else if o = 0x28 then .parkFreq
  else if o = 0x2C then .corr
  else if o = 0x30 then .prevCorr
  else if o = 0x34 then .iter
  else if o = 0x38 then .snapRaw
  else if o = 0x3C then .snapOvf
  else if o = 0x40 then .measLo
  else if o = 0x44 then .measHi
  else .reserved

/-- The value a read of a register returns (R48). CMD and the reserved offsets read 0; unlisted bits read 0. -/
def State.readReg (s : State) : Reg → Word
  | .ctrl => s.ctrl.setWidth 32
  | .cmd => 0
  | .status => s.statusWord
  | .fault => s.faultWord
  | .target => s.target
  | .step => s.stepSize.setWidth 32
  | .iterCount => s.iterCount.setWidth 32
  | .windowN => s.windowN.setWidth 32
  | .scale => s.scale.setWidth 32
  | .chan => (s.parkCh.setWidth 32 <<< 8) ||| s.calCh.setWidth 32
  | .parkFreq => s.parkFreq
  | .corr => s.corr
  | .prevCorr => s.prevCorr
  | .iter => s.iter.setWidth 32
  | .snapRaw => s.snapRaw.setWidth 32
  | .snapOvf => s.snapOvf
  | .measLo => s.meas.extractLsb' 0 32
  | .measHi => s.meas.extractLsb' 32 32
  | .reserved => 0

/-- The registers the configuration lock covers (R51). -/
def Reg.isConfig : Reg → Bool
  | .ctrl | .target | .step | .iterCount | .windowN | .scale | .chan | .parkFreq => true
  | .cmd | .status | .fault | .corr | .prevCorr | .iter | .snapRaw | .snapOvf | .measLo | .measHi | .reserved => false

/-- `WriteConfig(o, v)` (R50): only the defined bits are stored. The other registers are no configuration. -/
def State.writeConfig (s : State) (r : Reg) (v : Word) : State :=
  match r with
  | .ctrl => { s with ctrl := v.extractLsb' 0 4 }
  | .target => { s with target := v }
  | .step => { s with stepSize := v.extractLsb' 0 16 }
  | .iterCount => { s with iterCount := v.extractLsb' 0 8 }
  | .windowN => { s with windowN := v.extractLsb' 0 8 }
  | .scale => { s with scale := v.extractLsb' 0 16 }
  | .chan => { s with calCh := v.extractLsb' 0 8, parkCh := v.extractLsb' 8 8 }
  | .parkFreq => { s with parkFreq := v }
  | .cmd | .status | .fault | .corr | .prevCorr | .iter | .snapRaw | .snapOvf | .measLo | .measHi | .reserved => s

/-- What the bus makes of an access of `n` bytes at byte address `addr`. -/
inductive Access where
  /-- Outside BASE..BASE+0x7F: not an access to this block (R44). -/
  | outside
  /-- Of a size other than 4, or misaligned: ends with a bus error response (R45, R46). -/
  | error
  /-- An aligned 4-byte access to the register at this offset (R34). -/
  | reg (r : Reg)
deriving DecidableEq, Repr

/-- The address decoding of R43 to R46. -/
def State.access (s : State) (addr n : Nat) : Access :=
  if addr < s.base ∨ s.base + Config.windowBytes ≤ addr then .outside
  else if n ≠ Config.accessBytes ∨ (addr - s.base) % 4 ≠ 0 then .error
  else .reg (regAt (addr - s.base))

end Sys2Proof.Machine
end

