-- ==== Sys2Proof/Machine/Ops.lean ====
section
/-! DEFINITION. The shared operations of the block: the primitives the pseudocode of spec/40 to 43 names, taking a fault
(R117, R125) and the way out of one (R99, R126). -/

namespace Sys2Proof.Machine

/-- A step of the block that always has an outcome. -/
abbrev StepOutcome := Host.Outcome State Fault Refusal

/-! ### Plain updates -/

/-- `emit E` (R11): append a record to the output port. -/
def State.emit (s : State) (r : OutRecord) : State := { s with out := s.out ++ [r] }

/-- `state <- S` (R11). -/
def State.goto (s : State) (st : SeqState) : State := { s with seqState := st.bits }

/-- An illegal operation: the sticky bit FAULT.ILL, and nothing else (R118). -/
def State.setIll (s : State) : State := { s with ill := true }

/-- The response of the bus to the host (R45 to R49). -/
def State.respond (s : State) (r : BusResponse) : State := { s with busResponse := some r }

/-! ### Reference counter (40_reference_counter.md) -/

/-- `RcReset()` (R73): RC_RUN is not changed. -/
def State.rcReset (s : State) : State := { s with rcCount := 0, rcOvf := 0 }

/-- `RcFreeze()` (R74): the counts keep their values. -/
def State.rcFreeze (s : State) : State := { s with rcRun := false }

/-- The counted edge of R71: a wrap and its tally increment are one step (R72). -/
def State.rcCountEdge (s : State) : State :=
  if s.rcCount.toNat = s.modulus - 1 then { s with rcCount := 0, rcOvf := s.rcOvf + 1 }
  else { s with rcCount := s.rcCount + 1 }

/-! ### PPS gate (41_pps_gate.md) -/

/-- The arm succeeds exactly when WINDOW_N ≥ 2 (R79). -/
def State.armable (s : State) : Bool := 2 ≤ s.windowN.toNat

/-- The writes of a successful `Arm()` (R78); the caller has checked `armable`. -/
def State.armGate (s : State) : State :=
  { s.rcReset with pgEdges := 0, pgComplete := false, pgToggle := false, rcRun := true, pgTrigEn := true }

/-- The first half of `GateEdge()` (R82): count the edge; edge 1 resets the counter. -/
def State.gateCount (s : State) : State :=
  let t := { s with pgEdges := s.pgEdges + 1 }
  if t.pgEdges = 1 then t.rcReset else t

/-- The second half of `GateEdge()` (R82): the Nth edge freezes the counter and closes the window. -/
def State.gateClose (s : State) : State :=
  if s.pgEdges = s.windowN then { s.rcFreeze with pgTrigEn := false, pgComplete := true } else s

/-- `GateEdge()` (R82). -/
def State.gateEdge (s : State) : State := s.gateCount.gateClose

/-- The two physical transitions of the PPS line. -/
inductive PpsEvent where
  | rise | fall
deriving DecidableEq, Repr

/-- A PPS event (R83, R84): ignored while the trigger is disabled (R85); otherwise `Qualify` (R81) decides whether it is
a qualifying edge. In mode 1 the toggle flag is inverted first and the new flag decides. -/
def State.ppsEvent (s : State) (ev : PpsEvent) : State :=
  if !s.pgTrigEn then s
  else if !s.edgeMode then
    if ev = .rise then s.gateEdge else s
  else
    let t := { s with pgToggle := !s.pgToggle }
    if t.pgToggle then t.gateEdge else t

/-! ### Measurement and step (42_controller.md, 43_arithmetic.md) -/

/-- `Snapshot()` (R90). -/
def State.snapshot (s : State) : State := { s with snapRaw := s.rcCount, snapOvf := s.rcOvf }

/-- `MeasFreq(raw, ovf, scale)` for modulus `m` (R108): the exact integer, which MEAS holds whole (R109). -/
def measFreq (m : Nat) (raw : BitVec 16) (ovf : BitVec 32) (scale : BitVec 16) : BitVec 64 :=
  BitVec.ofNat 64 ((raw.toNat + m * ovf.toNat) * scale.toNat)

/-- MEAS written from the snapshot (R96, R111). -/
def State.measure (s : State) : State := { s with meas := measFreq s.modulus s.snapRaw s.snapOvf s.scale }

/-- `Huff(corr, meas, target, step)` (R112): an unsigned comparison on 64 bits; the sum wraps modulo 2^32. -/
def huff (corr : Word) (meas : BitVec 64) (target : Word) (step : BitVec 16) : Word :=
  if meas < target.setWidth 64 then corr - step.setWidth 32
  else if target.setWidth 64 < meas then corr + step.setWidth 32
  else corr

/-- The Huff-n-Puff step on the registers: PREV_CORR takes the old CORR (R98, R113). -/
def State.adjust (s : State) : State :=
  { s with prevCorr := s.corr, corr := huff s.corr s.meas s.target s.stepSize }

/-- The end of an iteration: the next index, and back to IDLE (R97, R98). -/
def State.nextIteration (s : State) : State := { s with iter := s.iter + 1 }.goto .idle

/-! ### Faults (60_exceptions.md) -/

/-- The three faults of R117. -/
inductive FaultKind where
  | signalLoss | samplingTimeout | hardwareInit
deriving DecidableEq, Repr

/-- The code of a fault in ABORT_CAUSE and in LogFault (R117). -/
def FaultKind.code : FaultKind → BitVec 4
  | .signalLoss => 1
  | .samplingTimeout => 2
  | .hardwareInit => 3

/-- Set a fault's sticky bit (R33, R117). -/
def State.setSticky (s : State) : FaultKind → State
  | .signalLoss => { s with slf := true }
  | .samplingTimeout => { s with stf := true }
  | .hardwareInit => { s with hif := true }

/-- A fault recorded in a cycle: the sticky bit and the LogFault record (R117). -/
def State.reportFault (s : State) (f : FaultKind) : State := (s.setSticky f).emit (.logFault f.code s.iter)

/-- Taking an aborting fault (R125): the sticky bit, ABORT_CAUSE, the LogFault record, and STATE to FAULTED. It saves
nothing else and has no vector. -/
def State.abortCycle (s : State) (f : FaultKind) : State :=
  { s.reportFault f with abortCause := f.code }.goto .faulted

/-- The way out of a fault: there is no return, FAULTED leads to DONE (R99, R126). -/
def State.leaveFault (s : State) : State := s.goto .done

/-! ### Reset (70_reset_and_hazards.md) -/

/-- `Reset()` (R133). It touches neither the parameters, nor `out` (R41), nor the host's side of the bus, nor what the
environment presents next. -/
def State.resetBlock (s : State) : State :=
  { s with
    rcCount := 0, rcOvf := 0, rcRun := false
    pgEdges := 0, pgTrigEn := false, pgToggle := false, pgComplete := false
    snapRaw := 0, snapOvf := 0, meas := 0
    corr := 0, prevCorr := 0, iter := 0, seqState := SeqState.stopped.bits
    slf := false, stf := false, hif := false, ill := false, abortCause := 0
    ctrl := 0b1010
    target := 3200000, stepSize := 50, iterCount := 24, windowN := 11, scale := 10
    calCh := 0, parkCh := 0, parkFreq := 0 }

/-! ### Sequencer steps as operations -/

/-- The step of one sequencer state: it exists only in that state (R65, R66). -/
def State.seqStepIn (s : State) (st : SeqState) (t : State) : StepOutcome :=
  if s.seqState = st.bits then .next t else .refused .seqNotEnabled

end Sys2Proof.Machine
end

