-- ==== Sys2Proof/Machine/Arithmetic.lean ====
section
/-! DEFINITION. The two arithmetic commands: MEASURE and ADJUST (spec/43_arithmetic.md). -/

namespace Sys2Proof.Machine

/-- `MeasureCmd()` (R111). -/
def measureCmd (s : State) : State := if s.busy then s.setIll else s.measure

/-- `AdjustCmd()` (R113): BUSY before MEAS = 0 (R124); signal loss here only sets SLF. -/
def adjustCmd (s : State) : State :=
  if s.busy then s.setIll
  else if s.meas = 0 then s.setSticky .signalLoss
  else s.adjust

/-- CMD MEASURE, a host write of 0x00000004 to CMD (R111, R49). -/
def execCmdMeasure (s : State) : StepOutcome := .next ((measureCmd s).respond .writeOk)

/-- CMD ADJUST, a host write of 0x00000005 to CMD (R113, R49). -/
def execCmdAdjust (s : State) : StepOutcome := .next ((adjustCmd s).respond .writeOk)

end Sys2Proof.Machine
end

