-- ==== Sys2Proof/Machine/Controller.lean ====
section
/-! DEFINITION. The calibration controller: the commands NOP, RUN and SNAPSHOT, the TIMEOUT event and the sequencer step
of every state (spec/42_controller.md). -/

namespace Sys2Proof.Machine

/-! ### Commands -/

/-- `Nop()` (R91). -/
def nopCmd (s : State) : State := s

/-- `Run()` (R92). -/
def runCmd (s : State) : State :=
  if s.busy then s.setIll
  else
    let t := { s with iter := 0, prevCorr := s.corr, abortCause := 0 }
    ((((t.emit (.enableChannel t.parkCh false)).emit (.setCorrection t.corr)).emit
      (.setFrequency t.calCh t.target)).emit (.enableChannel t.calCh true)).goto .idle

/-- `SnapshotCmd()` (R93): the counter is never read while armed. -/
def snapshotCmd (s : State) : State := if s.busy || s.pgTrigEn then s.setIll else s.snapshot

/-- CMD NOP, a host write of 0x00000000 to CMD (R91, R49). -/
def execCmdNop (s : State) : StepOutcome := .next ((nopCmd s).respond .writeOk)

/-- CMD RUN, a host write of 0x00000001 to CMD (R92, R49). -/
def execCmdRun (s : State) : StepOutcome := .next ((runCmd s).respond .writeOk)

/-- CMD SNAPSHOT, a host write of 0x00000003 to CMD (R93, R49). -/
def execCmdSnapshot (s : State) : StepOutcome := .next ((snapshotCmd s).respond .writeOk)

/-! ### The sampling timeout -/

/-- `Timeout()` (R101): it acts only while waiting for a window that has not closed; the window is then abandoned. -/
def timeoutStrobe (s : State) : State :=
  if s.timeoutEn && s.seqState == SeqState.waitingForWindow.bits && !s.pgComplete then
    { s.rcFreeze with pgTrigEn := false }.abortCycle .samplingTimeout
  else s

/-- TIMEOUT (R101). -/
def execTimeout (s : State) : StepOutcome := .next (timeoutStrobe s)

/-! ### Sequencer steps -/

/-- `IdleStep()` (R94). -/
def idleStep (s : State) : State := if s.iter.toNat < s.iterCount.toNat then s.goto .armed else s.goto .done

/-- `ArmedStep()` (R95). -/
def armedStep (s : State) : State :=
  if s.armable then s.armGate.goto .waitingForWindow else s.abortCycle .hardwareInit

/-- `WaitStep()` (R96): snapshot and measure in one step. -/
def waitStep (s : State) : State := s.snapshot.measure.goto .measured

/-- `MeasuredStep()` (R97): iteration 0 is discarded before MEAS is looked at (R124). -/
def measuredStep (s : State) : State :=
  if s.iter = 0 then { s with iter := 1 }.goto .idle
  else if s.meas = 0 then
    if s.abortOnLoss then s.abortCycle .signalLoss else (s.reportFault .signalLoss).nextIteration
  else s.goto .adjusting

/-- `AdjustStep()` (R98): the commit, its push, the frequency request and the optional log record, which carries the
index before the increment. -/
def adjustStep (s : State) : State :=
  let t := (s.adjust.emit (.setCorrection s.adjust.corr)).emit (.setFrequency s.calCh s.target)
  let u := if s.logEn then t.emit (.logIter t.iter t.meas t.prevCorr t.corr) else t
  u.nextIteration

/-- `FaultedStep()` (R99). -/
def faultedStep (s : State) : State := s.leaveFault

/-- `DoneStep()` (R100): the cleanup records. -/
def doneStep (s : State) : State :=
  (((s.emit (.enableChannel s.calCh false)).emit (.setFrequency s.parkCh s.parkFreq)).emit
    (.enableChannel s.parkCh true)).goto .cleanup

/-- SEQ in IDLE (R94). -/
def execSeqIdle (s : State) : StepOutcome := s.seqStepIn .idle (idleStep s)

/-- SEQ in ARMED (R95). -/
def execSeqArmed (s : State) : StepOutcome := s.seqStepIn .armed (armedStep s)

/-- SEQ in WAITING_FOR_WINDOW (R96): enabled exactly when PG_COMPLETE = 1. -/
def execSeqWaiting (s : State) : StepOutcome :=
  if s.pgComplete then s.seqStepIn .waitingForWindow (waitStep s) else .refused .seqNotEnabled

/-- SEQ in MEASURED (R97). -/
def execSeqMeasured (s : State) : StepOutcome := s.seqStepIn .measured (measuredStep s)

/-- SEQ in ADJUSTING (R98). -/
def execSeqAdjusting (s : State) : StepOutcome := s.seqStepIn .adjusting (adjustStep s)

/-- SEQ in FAULTED (R99). -/
def execSeqFaulted (s : State) : StepOutcome := s.seqStepIn .faulted (faultedStep s)

/-- SEQ in DONE (R100). -/
def execSeqDone (s : State) : StepOutcome := s.seqStepIn .done (doneStep s)

/-- SEQ (R66): the step that STATE selects; none in STOPPED and CLEANUP, and none while the window is open. -/
def execSeq (s : State) : StepOutcome :=
  match SeqState.ofBits s.seqState with
  | some .idle => .next (idleStep s)
  | some .armed => .next (armedStep s)
  | some .waitingForWindow => if s.pgComplete then .next (waitStep s) else .refused .seqNotEnabled
  | some .measured => .next (measuredStep s)
  | some .adjusting => .next (adjustStep s)
  | some .faulted => .next (faultedStep s)
  | some .done => .next (doneStep s)
  | some .stopped | some .cleanup => .refused .seqNotEnabled
  | none => .refused .seqStateUnused

end Sys2Proof.Machine
end

