-- ==== Sys2Proof/Machine/PpsGate.lean ====
section
/-! DEFINITION. The PPS gate: the ARM command and the two PPS events (spec/41_pps_gate.md). -/

namespace Sys2Proof.Machine

/-- `ArmCmd()` (R80): BUSY is checked before WINDOW_N (R124); a failed arm outside a cycle only sets HIF. -/
def armCmd (s : State) : State :=
  if s.busy then s.setIll
  else if s.armable then s.armGate
  else s.setSticky .hardwareInit

/-- CMD ARM, a host write of 0x00000002 to CMD (R80, R49). -/
def execCmdArm (s : State) : StepOutcome := .next ((armCmd s).respond .writeOk)

/-- PPS_RISE (R83). -/
def execPpsRise (s : State) : StepOutcome := .next (s.ppsEvent .rise)

/-- PPS_FALL (R84). -/
def execPpsFall (s : State) : StepOutcome := .next (s.ppsEvent .fall)

end Sys2Proof.Machine
end

