-- ==== Sys2Proof/Machine/Bus.lean ====
section
/-! DEFINITION. The host bus: BUS_RD, BUS_WR and the execution of a command word (spec/20_memory.md,
spec/30_encoding.md). -/

namespace Sys2Proof.Machine

/-- A command word that is none of the six commands: FAULT.ILL and nothing else (R64). -/
def reservedCmd (s : State) : State := s.setIll

/-- `ExecCommand(v)` (R64): RSVD first, then OPCODE (R124). -/
def execCommand (v : CmdWord) (s : State) : State :=
  if cmdRsvd v ≠ 0 then reservedCmd s
  else if cmdOpcode v = 0x00 then nopCmd s
  else if cmdOpcode v = 0x01 then runCmd s
  else if cmdOpcode v = 0x02 then armCmd s
  else if cmdOpcode v = 0x03 then snapshotCmd s
  else if cmdOpcode v = 0x04 then measureCmd s
  else if cmdOpcode v = 0x05 then adjustCmd s
  else reservedCmd s

/-- CMD reserved, a host write of any other value to CMD (R64, R49). -/
def execCmdReserved (_v : CmdWord) (s : State) : StepOutcome := .next ((reservedCmd s).respond .writeOk)

/-- The write-1-to-clear of FAULT (R49 at 0x0C): the four sticky bits; ABORT_CAUSE is unaffected. -/
def clearSticky (v : Word) (s : State) : State :=
  { s with
    slf := s.slf && !v.getLsbD 0
    stf := s.stf && !v.getLsbD 1
    hif := s.hif && !v.getLsbD 2
    ill := s.ill && !v.getLsbD 3 }

/-- A write to the register at an aligned offset (R49): a command, a write-1-to-clear, a locked configuration register
(R51), CORR (R52), or nothing at all for the read-only and reserved offsets. -/
def writeReg (r : Reg) (v : Word) (s : State) : State :=
  match r with
  | .cmd => execCommand v s
  | .fault => clearSticky v s
  | .ctrl | .target | .step | .iterCount | .windowN | .scale | .chan | .parkFreq =>
    if s.locked then s.setIll else s.writeConfig r v
  | .corr => if s.busy then s.setIll else { s with corr := v }
  | .status | .prevCorr | .iter | .snapRaw | .snapOvf | .measLo | .measHi | .reserved => s

/-- `MemRead(addr, n)` (R48). -/
def memRead (addr n : Nat) (s : State) : StepOutcome :=
  match s.access addr n with
  | .outside => .refused .accessOutsideWindow
  | .error => .next (s.respond .busError)
  | .reg r => .next (s.respond (.readData (s.readReg r)))

/-- `MemWrite(addr, n, v)` (R49). -/
def memWrite (addr n : Nat) (v : Word) (s : State) : StepOutcome :=
  match s.access addr n with
  | .outside => .refused .accessOutsideWindow
  | .error => .next (s.respond .busError)
  | .reg r => .next ((writeReg r v s).respond .writeOk)

/-- BUS_RD: `MemRead(BASE+OFS, SIZE)` (R65, R48). -/
def execBusRd (size ofs : Byte) (s : State) : StepOutcome := memRead (s.base + ofs.toNat) size.toNat s

/-- BUS_WR: `MemWrite(BASE+OFS, SIZE, DATA)` (R65, R49). -/
def execBusWr (size ofs : Byte) (data : Word) (s : State) : StepOutcome :=
  memWrite (s.base + ofs.toNat) size.toNat data s

end Sys2Proof.Machine
end

