-- ==== Sys2Proof/Machine/RefCounter.lean ====
section
/-! DEFINITION. The reference counter's event: REF_TICK (spec/40_reference_counter.md). -/

namespace Sys2Proof.Machine

/-- `RefTick()` (R71): an edge counts only while the clock input is enabled. -/
def refTick (s : State) : State := if !s.rcRun then s else s.rcCountEdge

/-- REF_TICK (R71). -/
def execRefTick (s : State) : StepOutcome := .next (refTick s)

end Sys2Proof.Machine
end

