-- ==== Sys2Proof/Machine/Reset.lean ====
section
/-! DEFINITION. The block reset input (spec/70_reset_and_hazards.md). -/

namespace Sys2Proof.Machine

/-- RESET (R133): effective in every state. -/
def execReset (s : State) : StepOutcome := .next s.resetBlock

end Sys2Proof.Machine
end

