-- ==== Sys2Proof/Machine/Dispatch.lean ====
section
/-! DEFINITION. One arm per constructor of Instr: its meaning. -/

namespace Sys2Proof.Machine

def exec (i : Instr) (s : State) : Host.Outcome State Fault Refusal :=
  match i with
  | .cmdNop => Sys2Proof.Machine.execCmdNop s
  | .cmdRun => Sys2Proof.Machine.execCmdRun s
  | .cmdArm => Sys2Proof.Machine.execCmdArm s
  | .cmdSnapshot => Sys2Proof.Machine.execCmdSnapshot s
  | .cmdMeasure => Sys2Proof.Machine.execCmdMeasure s
  | .cmdAdjust => Sys2Proof.Machine.execCmdAdjust s
  | .cmdReserved v => Sys2Proof.Machine.execCmdReserved v s
  | .refTick => Sys2Proof.Machine.execRefTick s
  | .ppsRise => Sys2Proof.Machine.execPpsRise s
  | .ppsFall => Sys2Proof.Machine.execPpsFall s
  | .timeout => Sys2Proof.Machine.execTimeout s
  | .reset => Sys2Proof.Machine.execReset s
  | .busRd size ofs => Sys2Proof.Machine.execBusRd size ofs s
  | .busWr size ofs data => Sys2Proof.Machine.execBusWr size ofs data s
  | .seq => Sys2Proof.Machine.execSeq s
  | .seqIdle => Sys2Proof.Machine.execSeqIdle s
  | .seqArmed => Sys2Proof.Machine.execSeqArmed s
  | .seqWaiting => Sys2Proof.Machine.execSeqWaiting s
  | .seqMeasured => Sys2Proof.Machine.execSeqMeasured s
  | .seqAdjusting => Sys2Proof.Machine.execSeqAdjusting s
  | .seqFaulted => Sys2Proof.Machine.execSeqFaulted s
  | .seqDone => Sys2Proof.Machine.execSeqDone s

end Sys2Proof.Machine
end

