-- ==== Sys2Proof/Machine/Step.lean ====
section
/-! DEFINITION. One step of the machine (R13), and how the environment presents an operation to it. -/

namespace Sys2Proof.Machine

/-- One step (R13). The environment's next operation is taken from `pending`, decoded and executed. Where it presents
none, the block takes its own sequencer step if one is enabled (R14: it is eventually taken), and is stuck otherwise. -/
def step (s : State) : Host.Outcome State Fault Refusal :=
  match s.pending with
  | r :: rest =>
    match decode r with
    | .ok i => exec i { s with pending := rest }
    | .error e => .refused (.noSuchOperation e)
  | [] => if s.seqEnabled then exec .seq s else .fault .stuck

/-- `s` with the operation of a word of spec/opcode_table.json presented next. -/
def State.withFetchWord (s : State) (nbits w : Nat) : State := { s with pending := rawOfTable nbits w :: s.pending }

end Sys2Proof.Machine
end

