-- ==== Sys2Proof/Machine/Assembly.lean ====
section
/-! DEFINITION. The program notation of spec/30_encoding.md section 5: line forms, pseudo-instructions and the operation
words they stand for. It says what a host or test bench presents; the block itself reads only the words. -/

namespace Sys2Proof.Machine

/-- The byte offset of a named register (R34); the reserved range has no name, its first offset stands for it. -/
def Reg.offset : Reg → Byte
  | .ctrl => 0x00
  | .cmd => 0x04
  | .status => 0x08
  | .fault => 0x0C
  | .target => 0x10
  | .step => 0x14
  | .iterCount => 0x18
  | .windowN => 0x1C
  | .scale => 0x20
  | .chan => 0x24
  | .parkFreq => 0x28
  | .corr => 0x2C
  | .prevCorr => 0x30
  | .iter => 0x34
  | .snapRaw => 0x38
  | .snapOvf => 0x3C
  | .measLo => 0x40
  | .measHi => 0x44
  | .reserved => 0x48

/-- The six command names of R69. -/
inductive CmdName where
  | nop | run | arm | snapshot | measure | adjust
deriving DecidableEq, Repr

/-- The command word a name stands for (R63, R69). -/
def CmdName.word : CmdName → CmdWord
  | .nop => 0x00000000
  | .run => 0x00000001
  | .arm => 0x00000002
  | .snapshot => 0x00000003
  | .measure => 0x00000004
  | .adjust => 0x00000005

/-- A line of a program (R68, R69). `SETTLE` is no line: its expansion depends on the
state (Sys2Proof.Safety.settle). -/
inductive AsmLine where
  /-- `TICK`, `TICK <n>` and `TICK x <n>`. -/
  | tick (n : Nat)
  /-- `RISE`. -/
  | rise
  /-- `FALL`. -/
  | fall
  /-- `TIMEOUT`. -/
  | timeout
  /-- `RESET`. -/
  | reset
  /-- `RD <reg>`. -/
  | rd (r : Reg)
  /-- `WR <reg>, <value>`. -/
  | wr (r : Reg) (value : Word)
  /-- `RDB <ofs>, <n>`. -/
  | rdb (ofs n : Byte)
  /-- `WRB <ofs>, <n>, <value>`. -/
  | wrb (ofs n : Byte) (value : Word)
  /-- `SEQ`. -/
  | seq
  /-- `CMD <name>`. -/
  | cmd (c : CmdName)
  /-- `PULSE` and `PULSE <n>`. -/
  | pulse (n : Nat)
  /-- `CLRFAULT`. -/
  | clrFault
deriving DecidableEq, Repr

/-- A line repeated by its `x <count>` suffix (R68). -/
def repeatWords (n : Nat) (ws : List OpWord) : List OpWord := (List.replicate n ws).flatten

/-- The operation words a line stands for (R68), after the expansion of a pseudo-instruction (R69). -/
def AsmLine.words : AsmLine → List OpWord
  | .tick n => repeatWords n [opwOf 0x01 0 0 0]
  | .rise => [opwOf 0x02 0 0 0]
  | .fall => [opwOf 0x03 0 0 0]
  | .timeout => [opwOf 0x04 0 0 0]
  | .reset => [opwOf 0x05 0 0 0]
  | .rd r => [opwOf 0x10 0x04 r.offset 0]
  | .wr r value => [opwOf 0x11 0x04 r.offset value]
  | .rdb ofs n => [opwOf 0x10 n ofs 0]
  | .wrb ofs n value => [opwOf 0x11 n ofs value]
  | .seq => [opwOf 0x20 0 0 0]
  | .cmd c => [opwOf 0x11 0x04 Reg.cmd.offset c.word]
  | .pulse n => repeatWords n [opwOf 0x02 0 0 0, opwOf 0x03 0 0 0]
  | .clrFault => [opwOf 0x11 0x04 Reg.fault.offset 0x0000000F]

/-- A program: its lines one after the other (R68). -/
def programWords (ls : List AsmLine) : List OpWord := ls.flatMap AsmLine.words

end Sys2Proof.Machine
end

