-- ==== Sys2Proof/Safety.lean ====
section
/-! DEFINITION. The terms the statements use: the invariants of R42, reachable states, runs of operations, the ghost
counts of R75 and R87, the shape of a window and of a cycle, and the integrator's obligation of R77. -/

namespace Sys2Proof.Safety

open Sys2Proof.Machine

/-! ### Invariants -/

/-- R42, clause by clause. -/
structure R42 (s : State) : Prop where
  complete_frozen : s.pgComplete = true → s.pgTrigEn = false ∧ s.rcRun = false
  armed_runs : s.pgTrigEn = true → s.rcRun = true ∧ 2 ≤ s.windowN.toNat ∧ s.pgEdges.toNat < s.windowN.toNat
  edges_bounded : s.pgEdges.toNat ≤ 255
  busy_iter : s.busy = true → s.iter.toNat ≤ s.iterCount.toNat
  waiting_armed : s.seqState = SeqState.waitingForWindow.bits → s.pgTrigEn = true ∨ s.pgComplete = true
  state_used : s.seqState.toNat < 9

/-- R42 with what makes it inductive: the counts stay inside W bits (R18, R26), a busy iteration that has begun is one
of the ITER_COUNT (R30, R94), RC_RUN follows PG_TRIG_EN (R20, R22), and ABORT_CAUSE is a listed code (R33). -/
structure Inv (s : State) : Prop extends R42 s where
  count_width : s.rcCount.toNat < s.modulus
  snap_width : s.snapRaw.toNat < s.modulus
  iter_open : 2 ≤ s.seqState.toNat → s.seqState.toNat ≤ 5 → s.iter.toNat < s.iterCount.toNat
  run_armed : s.rcRun = s.pgTrigEn
  cause_listed : s.abortCause.toNat ≤ 3

/-- The block at power-on (R134), for every counter width and base address, with any operations to come. -/
def powerOn (widthLess1 : Fin 16) (basePage : Nat) (ops : List RawOp) : State :=
  { State.reset with widthLess1 := widthLess1, basePage := basePage, pending := ops }

/-- The states an execution from power-on passes through, in whatever order the environment chose (R13). -/
inductive Reachable : State → Prop where
  | powerOn (widthLess1 : Fin 16) (basePage : Nat) (ops : List RawOp) : Reachable (powerOn widthLess1 basePage ops)
  | step {s t : State} : Reachable s → Machine.step s = .next t → Reachable t

/-! ### Runs -/

/-- Operations executed one after the other, stopping at the first that has no next state. -/
def runInstrs : List Instr → State → StepOutcome
  | [], s => .next s
  | i :: is, s =>
    match exec i s with
    | .next t => runInstrs is t
    | .fault f => .fault f
    | .refused r => .refused r

/-- `SETTLE` (R69): SEQ repeated while a sequencer step is enabled, at most `k` times. -/
def settle : Nat → State → StepOutcome
  | 0, s => .next s
  | k + 1, s =>
    if s.seqEnabled then
      match exec .seq s with
      | .next t => settle k t
      | .fault f => .fault f
      | .refused r => .refused r
    else .next s

/-- The rows of the opcode table that name SEQ in one state; their word is SEQ's. -/
def isSeqRow : Instr → Bool
  | .seqIdle | .seqArmed | .seqWaiting | .seqMeasured | .seqAdjusting | .seqFaulted | .seqDone => true
  | .cmdNop | .cmdRun | .cmdArm | .cmdSnapshot | .cmdMeasure | .cmdAdjust | .cmdReserved _ => false
  | .refTick | .ppsRise | .ppsFall | .timeout | .reset | .busRd _ _ | .busWr _ _ _ | .seq => false

/-! ### The counter (R75, R76) -/

/-- The total the counter and its tally hold: RC_OVF * M + RC_COUNT (R75). -/
def tally (s : State) : Nat := s.rcOvf.toNat * s.modulus + s.rcCount.toNat

/-- The PPS event is the 1st qualifying edge after an arm (R81, R82). -/
def isFirstEdge (s : State) (rise : Bool) : Bool :=
  s.pgTrigEn && s.pgEdges == 0 && (if s.edgeMode then !s.pgToggle else rise)

/-- The step performs RcReset or resets the block (R73, R133): a successful arm by ARM or by the ARMED step, the 1st
qualifying edge, or RESET. -/
def resetsCounter (i : Instr) (s : State) : Bool :=
  match i with
  | .reset => true
  | .cmdArm => !s.busy && decide (2 ≤ s.windowN.toNat)
  | .busWr size ofs data => size == 4 && ofs == 4 && data == 2 && !s.busy && decide (2 ≤ s.windowN.toNat)
  | .seq | .seqArmed => s.seqState == 2 && decide (2 ≤ s.windowN.toNat)
  | .ppsRise => isFirstEdge s true
  | .ppsFall => isFirstEdge s false
  | .cmdNop | .cmdRun | .cmdSnapshot | .cmdMeasure | .cmdAdjust | .cmdReserved _ => false
  | .refTick | .timeout | .busRd _ _ => false
  | .seqIdle | .seqWaiting | .seqMeasured | .seqAdjusting | .seqFaulted | .seqDone => false

/-- T of R75, carried along a run: REF_TICK steps taken with RC_RUN = 1 since the latest RcReset. -/
def countedSince : List Instr → State → Nat → Nat
  | [], _, n => n
  | i :: is, s, n =>
    match exec i s with
    | .next t => countedSince is t (if resetsCounter i s then 0 else if i = .refTick ∧ s.rcRun = true then n + 1 else n)
    | .fault _ => n
    | .refused _ => n

/-! ### Windows (R86, R87) -/

/-- The events of the counter and the gate: reference edges and PPS transitions. -/
def isGateEvent (i : Instr) : Bool := i == .refTick || i == .ppsRise || i == .ppsFall

/-- The transitions that a capability looks at: rises in mode 0, every transition in mode 1 (R81). -/
def seenTransition (toggleMode : Bool) (i : Instr) : Bool := i == .ppsRise || (toggleMode && i == .ppsFall)

/-- How many seen transitions there are from the 1st to the Nth qualifying edge, both included (R86): in mode 1 only
every other one qualifies, the 1st among them. -/
def seenPerWindow (toggleMode : Bool) (n : Nat) : Nat := if toggleMode then 2 * n - 1 else n

/-- Events after an arm that hold a whole window of `n` qualifying edges with exactly `T` reference edges strictly
between the 1st (`a`) and the Nth (`b`); what comes before `a` and after `b` is outside the window (R87). -/
def WindowOf (toggleMode : Bool) (n T : Nat) (evs : List Instr) : Prop :=
  (∀ i ∈ evs, isGateEvent i = true) ∧
  ∃ pre a mid b post, evs = pre ++ a :: (mid ++ b :: post) ∧
    seenTransition toggleMode a = true ∧ seenTransition toggleMode b = true ∧
    pre.countP (seenTransition toggleMode) = 0 ∧
    mid.countP (seenTransition toggleMode) + 2 = seenPerWindow toggleMode n ∧
    T = mid.count .refTick

/-! ### Cycles (R104) -/

/-- The operations of iteration 0 around its window's events: the IDLE and ARMED steps, the events, the
WAITING_FOR_WINDOW step and the MEASURED step that discards it. -/
def discardedIteration (evs : List Instr) : List Instr := .seq :: .seq :: (evs ++ [.seq, .seq])

/-- The operations of an adjusting iteration around its window's events. -/
def adjustingIteration (evs : List Instr) : List Instr := .seq :: .seq :: (evs ++ [.seq, .seq, .seq])

/-- The operations of a whole cycle: RUN, iteration 0, the adjusting iterations, and the IDLE and DONE steps that end it. -/
def cycleOps (evs₀ : List Instr) (evss : List (List Instr)) : List Instr :=
  .cmdRun :: (discardedIteration evs₀ ++ (evss.flatMap adjustingIteration ++ [.seq, .seq]))

/-- The step law on integers (R112, R114): which way CORR goes. -/
def stepped (corr : Word) (meas target : Nat) (step : BitVec 16) : Word :=
  if meas < target then corr - step.setWidth 32 else if target < meas then corr + step.setWidth 32 else corr

/-- CORR after the adjusting iterations whose windows counted `Ts`, from `c` (R104: c_k = Huff(c_(k-1), …)). -/
def cycleCorr (s : State) (c : Word) (Ts : List Nat) : Word :=
  Ts.foldl (fun c T => stepped c (T * s.scale.toNat) s.target.toNat s.stepSize) c

/-- The records of one adjusting iteration (R98): the push, the frequency request, and the log record if LOG_EN = 1. -/
def iterationRecords (s : State) (k : Nat) (c : Word) (T : Nat) : List OutRecord :=
  let c' := stepped c (T * s.scale.toNat) s.target.toNat s.stepSize
  [.setCorrection c', .setFrequency s.calCh s.target] ++
    (if s.logEn then [.logIter (BitVec.ofNat 8 k) (BitVec.ofNat 64 (T * s.scale.toNat)) c c'] else [])

/-- The records of the adjusting iterations from index `k` on, starting at correction `c` (R104). -/
def cycleRecords (s : State) : Nat → Word → List Nat → List OutRecord
  | _, _, [] => []
  | k, c, T :: Ts =>
    iterationRecords s k c T ++
      cycleRecords s (k + 1) (stepped c (T * s.scale.toNat) s.target.toNat s.stepSize) Ts

/-- The four start records of RUN (R92). -/
def startRecords (s : State) : List OutRecord :=
  [.enableChannel s.parkCh false, .setCorrection s.corr, .setFrequency s.calCh s.target, .enableChannel s.calCh true]

/-- The three cleanup records of the DONE step (R100). -/
def cleanupRecords (s : State) : List OutRecord :=
  [.enableChannel s.calCh false, .setFrequency s.parkCh s.parkFreq, .enableChannel s.parkCh true]

/-! ### Terms of single rules -/

/-- `GateEdge()` written out as one update (R82): the values every field takes. -/
def gateEdgeResult (s : State) : State :=
  { s with
    pgEdges := s.pgEdges + 1
    rcCount := if s.pgEdges + 1 = 1 then 0 else s.rcCount
    rcOvf := if s.pgEdges + 1 = 1 then 0 else s.rcOvf
    rcRun := if s.pgEdges + 1 = s.windowN then false else s.rcRun
    pgTrigEn := if s.pgEdges + 1 = s.windowN then false else s.pgTrigEn
    pgComplete := if s.pgEdges + 1 = s.windowN then true else s.pgComplete }

/-- The edges of the sequencer graph that a sequencer step takes (R106): from the state and under the condition of
`s`, to STATE `dest`. -/
def isSeqEdge (i : Instr) (s : State) (dest : BitVec 4) : Prop :=
  ((i = .seq ∨ i = .seqIdle) ∧ s.seqState = 1 ∧
    ((s.iter.toNat < s.iterCount.toNat ∧ dest = 2) ∨ (s.iterCount.toNat ≤ s.iter.toNat ∧ dest = 7))) ∨
  ((i = .seq ∨ i = .seqArmed) ∧ s.seqState = 2 ∧
    ((2 ≤ s.windowN.toNat ∧ dest = 3) ∨ (s.windowN.toNat < 2 ∧ dest = 6))) ∨
  ((i = .seq ∨ i = .seqWaiting) ∧ s.seqState = 3 ∧ s.pgComplete = true ∧ dest = 4) ∨
  ((i = .seq ∨ i = .seqMeasured) ∧ s.seqState = 4 ∧
    ((s.iter = 0 ∧ dest = 1) ∨ (s.iter ≠ 0 ∧ s.meas = 0 ∧ s.abortOnLoss = true ∧ dest = 6) ∨
      (s.iter ≠ 0 ∧ s.meas = 0 ∧ s.abortOnLoss = false ∧ dest = 1) ∨ (s.iter ≠ 0 ∧ s.meas ≠ 0 ∧ dest = 5))) ∨
  ((i = .seq ∨ i = .seqAdjusting) ∧ s.seqState = 5 ∧ dest = 1) ∨
  ((i = .seq ∨ i = .seqFaulted) ∧ s.seqState = 6 ∧ dest = 7) ∨
  ((i = .seq ∨ i = .seqDone) ∧ s.seqState = 7 ∧ dest = 8)

/-- Two states agree on every configuration register (R51). -/
def SameConfig (s t : State) : Prop :=
  t.ctrl = s.ctrl ∧ t.target = s.target ∧ t.stepSize = s.stepSize ∧ t.iterCount = s.iterCount ∧
    t.windowN = s.windowN ∧ t.scale = s.scale ∧ t.calCh = s.calCh ∧ t.parkCh = s.parkCh ∧ t.parkFreq = s.parkFreq

/-- A host write of `data` to the register at offset `ofs`, aligned and of size 4 (R49). -/
def isWrite (i : Instr) (ofs : Byte) (data : Word) : Prop := i = .busWr 4 ofs data

/-- The command row `i₀` or its host write to CMD (R65, R69). -/
def isCommand (i i₀ : Instr) (v : CmdWord) : Prop := i = i₀ ∨ i = .busWr 4 4 v

/-- The operations that end with a response to the host: bus accesses, the command rows among them (R48, R49, R64). -/
def isHostAccess : Instr → Bool
  | .cmdNop | .cmdRun | .cmdArm | .cmdSnapshot | .cmdMeasure | .cmdAdjust | .cmdReserved _ => true
  | .busRd _ _ | .busWr _ _ _ => true
  | .refTick | .ppsRise | .ppsFall | .timeout | .reset | .seq => false
  | .seqIdle | .seqArmed | .seqWaiting | .seqMeasured | .seqAdjusting | .seqFaulted | .seqDone => false

/-- A flag as a number. -/
def bit (b : Bool) : Nat := if b then 1 else 0

/-- What a read of each offset returns, as a number (R34, R39, R48). -/
def readings (s : State) : List (Nat × Nat) :=
  [(0x00, s.ctrl.toNat), (0x04, 0),
   (0x08, s.pgEdges.toNat * 65536 + bit s.pgToggle * 256 + bit s.rcRun * 128 + bit s.pgTrigEn * 64
     + bit s.pgComplete * 32 + bit (decide (s.seqState.toNat ∈ [1, 2, 3, 4, 5, 6, 7])) * 16 + s.seqState.toNat),
   (0x0C, s.abortCause.toNat * 16 + bit s.ill * 8 + bit s.hif * 4 + bit s.stf * 2 + bit s.slf),
   (0x10, s.target.toNat), (0x14, s.stepSize.toNat), (0x18, s.iterCount.toNat), (0x1C, s.windowN.toNat),
   (0x20, s.scale.toNat), (0x24, s.parkCh.toNat * 256 + s.calCh.toNat), (0x28, s.parkFreq.toNat),
   (0x2C, s.corr.toNat), (0x30, s.prevCorr.toNat), (0x34, s.iter.toNat), (0x38, s.snapRaw.toNat),
   (0x3C, s.snapOvf.toNat), (0x40, s.meas.toNat % 2 ^ 32), (0x44, s.meas.toNat / 2 ^ 32)]

/-- A cycle has ended (R137): STATE = CLEANUP. -/
def cycleEnded (s : State) : Bool := s.seqState == SeqState.cleanup.bits

/-- The integrator's obligation of R77 on the calibration frequency TARGET (hundredths of Hz): at most F_CLK / K. No
rule of the block reads it (R8); a run that breaks it may miss edges (R141). -/
def withinReferenceBound (s : State) : Prop :=
  s.target.toNat * Config.marginNum ≤ 100 * Config.fClk * Config.marginDen

end Sys2Proof.Safety
end

