-- ==== Sys2Proof/Certificates/Slice0/Obligations.lean ====
section
/-! DEFINITION. The statements about the model, from the numbered rules of spec/. A statement of the form
`exec i s = .next { s with … }` gives the whole next state: every field it does not list keeps its value. -/

open Sys2Proof Sys2Proof.Machine Sys2Proof.Safety

/-! ### Encoding (30_encoding.md) -/

/-- R70: the worked encodings, and the illegal command word's one effect. -/
def Obligations.WorkedEncodings : Prop :=
  decode (.cmd 0x00000001) = .ok .cmdRun ∧
  (AsmLine.cmd .run).words = [0x11040400000001] ∧ decode (.opw 0x11040400000001) = .ok (.busWr 4 4 1) ∧
  (AsmLine.wr .target 3200000).words = [0x1104100030D400] ∧
  decode (.opw 0x1104100030D400) = .ok (.busWr 4 0x10 3200000) ∧
  (AsmLine.wr .corr (-5)).words = [0x11042CFFFFFFFB] ∧ decode (.opw 0x11042CFFFFFFFB) = .ok (.busWr 4 0x2C (-5)) ∧
  (AsmLine.rd .status).words = [0x10040800000000] ∧ decode (.opw 0x10040800000000) = .ok (.busRd 4 8) ∧
  ∀ s, exec (.busWr 4 4 0x00000102) s = .next { s with ill := true, busResponse := some .writeOk }

/-- A word of every command of R63 and of every operation class of R65, written out from those tables, decodes to the
operation it stands for. -/
def Obligations.TableWordsDecode : Prop :=
  decode (.cmd 0x00000000) = .ok .cmdNop ∧ decode (.cmd 0x00000001) = .ok .cmdRun ∧ decode (.cmd 0x00000002) = .ok .cmdArm ∧
  decode (.cmd 0x00000003) = .ok .cmdSnapshot ∧ decode (.cmd 0x00000004) = .ok .cmdMeasure ∧
  decode (.cmd 0x00000005) = .ok .cmdAdjust ∧ decode (.cmd 0x00000006) = .ok (.cmdReserved 6) ∧
  decode (.opw 0x01000000000000) = .ok .refTick ∧ decode (.opw 0x02000000000000) = .ok .ppsRise ∧
  decode (.opw 0x03000000000000) = .ok .ppsFall ∧ decode (.opw 0x04000000000000) = .ok .timeout ∧
  decode (.opw 0x05000000000000) = .ok .reset ∧ decode (.opw 0x10043C00000000) = .ok (.busRd 4 0x3C) ∧
  decode (.opw 0x11042412345678) = .ok (.busWr 4 0x24 0x12345678) ∧ decode (.opw 0x20000000000000) = .ok .seq

/-- Decoding the word of a well-formed instruction gives it back; a row that names SEQ in one state gives SEQ, whose word
it has (R66). -/
def Obligations.DecodeInvertsEncode : Prop :=
  ∀ i : Instr, i.wellFormed = true →
    (isSeqRow i = false → decode (encode i) = .ok i) ∧ (isSeqRow i = true → decode (encode i) = .ok .seq)

/-- Each word has one meaning: what decodes to an instruction is that instruction's own word. -/
def Obligations.EncodeInvertsDecode : Prop :=
  ∀ (r : RawOp) (i : Instr), decode r = .ok i → i.wellFormed = true ∧ isSeqRow i = false ∧ encode i = r

/-- R62 with R44: which operation words name a step. -/
def Obligations.OperationWordNamesAStep : Prop :=
  ∀ cls size ofs : Byte, ∀ data : Word,
    (∃ i, decode (.opw (opwOf cls size ofs data)) = .ok i) ↔
      (cls.toNat ∈ [0x01, 0x02, 0x03, 0x04, 0x05, 0x20] ∧ size = 0 ∧ ofs = 0 ∧ data = 0) ∨
        (cls = 0x10 ∧ ofs.toNat ≤ 0x7F ∧ data = 0) ∨ (cls = 0x11 ∧ ofs.toNat ≤ 0x7F)

/-- R64: what a host write to CMD does: one of the six commands, or FAULT.ILL and nothing else. -/
def Obligations.BusWriteToCmdIsTheCommand : Prop :=
  ∀ (v : CmdWord) (s : State), exec (.busWr 4 4 v) s = exec (decodeCmd v) s ∧
    exec (.busWr 4 4 v) s =
      if v.toNat / 256 ≠ 0 then .next { s with ill := true, busResponse := some .writeOk }
      else if v.toNat % 256 = 0 then exec .cmdNop s
      else if v.toNat % 256 = 1 then exec .cmdRun s
      else if v.toNat % 256 = 2 then exec .cmdArm s
      else if v.toNat % 256 = 3 then exec .cmdSnapshot s
      else if v.toNat % 256 = 4 then exec .cmdMeasure s
      else if v.toNat % 256 = 5 then exec .cmdAdjust s
      else .next { s with ill := true, busResponse := some .writeOk }

/-! ### Steps and runs (R13, R14) -/

/-- The presented operation is decoded and executed, and taken from what is presented; a word that names no step is
refused (R62). -/
def Obligations.StepRunsTheDecodedOperation : Prop :=
  ∀ (s : State) (r : RawOp) (rest : List RawOp), s.pending = r :: rest →
    (∀ i, decode r = .ok i → step s = exec i { s with pending := rest }) ∧
    ∀ e, decode r = .error e → step s = .refused (.noSuchOperation e)

/-- With nothing presented the block takes its own enabled sequencer step, else it is stuck: the model's choice
(notes/assumptions/3.md), after R13 and R14. -/
def Obligations.StepWithNothingPresented : Prop :=
  ∀ s : State, s.pending = [] → step s = if s.seqEnabled then exec .seq s else .fault .stuck

/-- Steps of the machine over presented words are the meanings one after the other: the statements on `exec` and
`runInstrs` are statements about runs of `step`. -/
def Obligations.RunOfPresentedOperations : Prop :=
  ∀ (is : List Instr) (s : State) (rest : List RawOp),
    (∀ i ∈ is, i.wellFormed = true ∧ isSeqRow i = false) →
      Host.Core.run core is.length { s with pending := is.map encode ++ rest } =
        runInstrs is { s with pending := rest }

/-! ### Reference counter (40_reference_counter.md) -/

/-- R71, R72: REF_TICK, with its wrap and tally increment in one step. -/
def Obligations.RefTickCountsOrWraps : Prop :=
  decode (.opw 0x01000000000000) = .ok .refTick ∧ (AsmLine.tick 1).words = [0x01000000000000] ∧
  ∀ s : State, exec .refTick s = .next
    (if s.rcRun = false then s
     else if s.rcCount.toNat = 2 ^ s.width - 1 then { s with rcCount := 0, rcOvf := s.rcOvf + 1 }
     else { s with rcCount := s.rcCount + 1 })

/-- R75: along any run from a zeroed counter, the counter and its tally hold T modulo M * 2^32. -/
def Obligations.CountLaw : Prop :=
  ∀ (is : List Instr) (s t : State), s.rcCount = 0 → s.rcOvf = 0 → runInstrs is s = .next t →
    tally t = countedSince is s 0 % (t.modulus * 2 ^ 32) ∧
    (countedSince is s 0 < t.modulus * 2 ^ 32 →
      t.rcCount.toNat = countedSince is s 0 % t.modulus ∧ t.rcOvf.toNat = countedSince is s 0 / t.modulus)

/-- R76: while RC_RUN = 0 only RcReset or reset changes the counts. Where the invariant holds, the gate is then disabled,
so that the RcReset is an arm's. -/
def Obligations.FrozenCountsAreStable : Prop :=
  ∀ (i : Instr) (s t : State), exec i s = .next t → s.rcRun = false → resetsCounter i s = false →
    t.rcCount = s.rcCount ∧ t.rcOvf = s.rcOvf

/-! ### PPS gate (41_pps_gate.md) -/

/-- R78, R79, R80: the ARM command. -/
def Obligations.ArmCommand : Prop :=
  decode (.cmd 0x00000002) = .ok .cmdArm ∧ (AsmLine.cmd .arm).words = [0x11040400000002] ∧
  ∀ s : State, exec .cmdArm s = .next
    (if s.busy then { s with ill := true, busResponse := some .writeOk }
     else if s.windowN.toNat < 2 then { s with hif := true, busResponse := some .writeOk }
     else { s with pgEdges := 0, pgComplete := false, pgToggle := false, rcCount := 0, rcOvf := 0, rcRun := true,
                   pgTrigEn := true, busResponse := some .writeOk })

/-- R83 with R81, R82 and R85: a rising transition. -/
def Obligations.PpsRiseEvent : Prop :=
  decode (.opw 0x02000000000000) = .ok .ppsRise ∧ AsmLine.rise.words = [0x02000000000000] ∧
  ∀ s : State, exec .ppsRise s = .next
    (if s.pgTrigEn = false then s
     else if s.ctrl.toNat % 2 = 0 then gateEdgeResult s
     else if s.pgToggle then { s with pgToggle := false }
     else gateEdgeResult { s with pgToggle := true })

/-- R84 with R81, R82 and R85: a falling transition. -/
def Obligations.PpsFallEvent : Prop :=
  decode (.opw 0x03000000000000) = .ok .ppsFall ∧ AsmLine.fall.words = [0x03000000000000] ∧
  ∀ s : State, exec .ppsFall s = .next
    (if s.pgTrigEn = false then s
     else if s.ctrl.toNat % 2 = 0 then s
     else if s.pgToggle then { s with pgToggle := false }
     else gateEdgeResult { s with pgToggle := true })

/-- R86 for the ARM command (the ARMED step's arm: IterationZeroIsDiscarded and the cycle laws): after a successful ARM
the window closes at exactly the WINDOW_N-th qualifying edge, in either mode: the
WINDOW_N-th rise in mode 0, the (2·WINDOW_N - 1)-th transition in mode 1. -/
def Obligations.WindowLengthLaw : Prop :=
  ∀ (s : State) (evs : List Instr), s.busy = false → 2 ≤ s.windowN.toNat → (∀ e ∈ evs, isGateEvent e = true) →
    ∃ t, runInstrs (.cmdArm :: evs) s = .next t ∧
      (evs.countP (seenTransition s.edgeMode) < seenPerWindow s.edgeMode s.windowN.toNat →
        t.pgComplete = false ∧ t.pgTrigEn = true ∧ t.rcRun = true ∧
        t.pgEdges.toNat = if s.edgeMode then (evs.countP (seenTransition s.edgeMode) + 1) / 2
          else evs.countP (seenTransition s.edgeMode)) ∧
      (seenPerWindow s.edgeMode s.windowN.toNat ≤ evs.countP (seenTransition s.edgeMode) →
        t.pgComplete = true ∧ t.pgTrigEn = false ∧ t.rcRun = false ∧ t.pgEdges = s.windowN)

/-- R87 for the ARM command: a closed window holds the reference edges strictly between its 1st and its WINDOW_N-th qualifying edge. -/
def Obligations.CountedEdgesLaw : Prop :=
  ∀ (s : State) (T : Nat) (evs : List Instr), s.busy = false → 2 ≤ s.windowN.toNat →
    WindowOf s.edgeMode s.windowN.toNat T evs →
      ∃ t, runInstrs (.cmdArm :: evs) s = .next t ∧ t.pgComplete = true ∧
        tally t = T % (t.modulus * 2 ^ 32)

/-! ### Commands and the timeout (42_controller.md, 43_arithmetic.md) -/

/-- R91: NOP changes nothing, and NOP with a reserved bit set is illegal. -/
def Obligations.NopCommand : Prop :=
  decode (.cmd 0x00000000) = .ok .cmdNop ∧ (AsmLine.cmd .nop).words = [0x11040400000000] ∧
  (∀ s : State, exec .cmdNop s = .next { s with busResponse := some .writeOk }) ∧
  ∀ (v : CmdWord) (s : State), v.toNat % 256 = 0 → v ≠ 0 →
    exec (decodeCmd v) s = .next { s with ill := true, busResponse := some .writeOk }

/-- R92: RUN. -/
def Obligations.RunCommand : Prop :=
  decode (.cmd 0x00000001) = .ok .cmdRun ∧ (AsmLine.cmd .run).words = [0x11040400000001] ∧
  ∀ s : State, exec .cmdRun s = .next
    (if s.busy then { s with ill := true, busResponse := some .writeOk }
     else { s with iter := 0, prevCorr := s.corr, abortCause := 0, seqState := 1, busResponse := some .writeOk,
                   out := s.out ++ [.enableChannel s.parkCh false, .setCorrection s.corr,
                     .setFrequency s.calCh s.target, .enableChannel s.calCh true] })

/-- R93: SNAPSHOT. -/
def Obligations.SnapshotCommand : Prop :=
  decode (.cmd 0x00000003) = .ok .cmdSnapshot ∧ (AsmLine.cmd .snapshot).words = [0x11040400000003] ∧
  ∀ s : State, exec .cmdSnapshot s = .next
    (if s.busy ∨ s.pgTrigEn then { s with ill := true, busResponse := some .writeOk }
     else { s with snapRaw := s.rcCount, snapOvf := s.rcOvf, busResponse := some .writeOk })

/-- R111 with R108: MEASURE. -/
def Obligations.MeasureCommand : Prop :=
  decode (.cmd 0x00000004) = .ok .cmdMeasure ∧ (AsmLine.cmd .measure).words = [0x11040400000004] ∧
  ∀ s : State, exec .cmdMeasure s = .next
    (if s.busy then { s with ill := true, busResponse := some .writeOk }
     else { s with busResponse := some .writeOk, meas :=
       BitVec.ofNat 64 ((s.snapRaw.toNat + 2 ^ s.width * s.snapOvf.toNat) * s.scale.toNat) })

/-- R113 with R112: ADJUST. -/
def Obligations.AdjustCommand : Prop :=
  decode (.cmd 0x00000005) = .ok .cmdAdjust ∧ (AsmLine.cmd .adjust).words = [0x11040400000005] ∧
  ∀ s : State, exec .cmdAdjust s = .next
    (if s.busy then { s with ill := true, busResponse := some .writeOk }
     else if s.meas.toNat = 0 then { s with slf := true, busResponse := some .writeOk }
     else { s with prevCorr := s.corr, busResponse := some .writeOk, corr :=
       if s.meas.toNat < s.target.toNat then s.corr - s.stepSize.setWidth 32
       else if s.target.toNat < s.meas.toNat then s.corr + s.stepSize.setWidth 32
       else s.corr })

/-- R64: a reserved opcode, or any of bits [31:8] set, changes no state except FAULT.ILL. -/
def Obligations.ReservedCommand : Prop :=
  ∀ (v : CmdWord), (5 < v.toNat % 256 ∨ 256 ≤ v.toNat) →
    decode (.cmd v) = .ok (.cmdReserved v) ∧
    ∀ s : State, exec (.cmdReserved v) s = .next { s with ill := true, busResponse := some .writeOk }

/-- R101: TIMEOUT. -/
def Obligations.TimeoutEvent : Prop :=
  decode (.opw 0x04000000000000) = .ok .timeout ∧ AsmLine.timeout.words = [0x04000000000000] ∧
  ∀ s : State, exec .timeout s = .next
    (if s.ctrl.getLsbD 2 = true ∧ s.seqState = 3 ∧ s.pgComplete = false then
       { s with rcRun := false, pgTrigEn := false, stf := true, abortCause := 2, seqState := 6,
                out := s.out ++ [.logFault 2 s.iter] }
     else s)

/-! ### Sequencer steps (42_controller.md) -/

/-- R94: the IDLE step. -/
def Obligations.IdleStep : Prop :=
  ∀ (i : Instr) (s : State), i = .seq ∨ i = .seqIdle → s.seqState = 1 →
    exec i s = .next { s with seqState := if s.iter.toNat < s.iterCount.toNat then 2 else 7 }

/-- R95 with R78 and R79: the ARMED step. -/
def Obligations.ArmedStep : Prop :=
  ∀ (i : Instr) (s : State), i = .seq ∨ i = .seqArmed → s.seqState = 2 →
    exec i s = .next
      (if s.windowN.toNat < 2 then
         { s with hif := true, abortCause := 3, seqState := 6, out := s.out ++ [.logFault 3 s.iter] }
       else { s with pgEdges := 0, pgComplete := false, pgToggle := false, rcCount := 0, rcOvf := 0, rcRun := true,
                     pgTrigEn := true, seqState := 3 })

/-- R96 with R90 and R108: the WAITING_FOR_WINDOW step runs exactly when PG_COMPLETE = 1. -/
def Obligations.WaitingStep : Prop :=
  ∀ (i : Instr) (s : State), i = .seq ∨ i = .seqWaiting → s.seqState = 3 →
    (s.pgComplete = true → exec i s = .next { s with
      snapRaw := s.rcCount, snapOvf := s.rcOvf, seqState := 4
      meas := BitVec.ofNat 64 ((s.rcCount.toNat + 2 ^ s.width * s.rcOvf.toNat) * s.scale.toNat) }) ∧
    (s.pgComplete = false → exec i s = .refused .seqNotEnabled)

/-- R97: the MEASURED step. -/
def Obligations.MeasuredStep : Prop :=
  ∀ (i : Instr) (s : State), i = .seq ∨ i = .seqMeasured → s.seqState = 4 →
    exec i s = .next
      (if s.iter.toNat = 0 then { s with iter := 1, seqState := 1 }
       else if s.meas.toNat = 0 then
         if s.ctrl.getLsbD 1 = true then
           { s with slf := true, abortCause := 1, seqState := 6, out := s.out ++ [.logFault 1 s.iter] }
         else { s with slf := true, iter := s.iter + 1, seqState := 1, out := s.out ++ [.logFault 1 s.iter] }
       else { s with seqState := 5 })

/-- R98 with R112: the ADJUSTING step. -/
def Obligations.AdjustingStep : Prop :=
  ∀ (i : Instr) (s : State), i = .seq ∨ i = .seqAdjusting → s.seqState = 5 →
    exec i s = .next { s with
      prevCorr := s.corr, iter := s.iter + 1, seqState := 1
      corr := stepped s.corr s.meas.toNat s.target.toNat s.stepSize
      out := s.out ++ ([.setCorrection (stepped s.corr s.meas.toNat s.target.toNat s.stepSize),
          .setFrequency s.calCh s.target] ++
        if s.ctrl.getLsbD 3 = true then
          [.logIter s.iter s.meas s.corr (stepped s.corr s.meas.toNat s.target.toNat s.stepSize)]
        else []) }

/-- R99, R126: the FAULTED step leads to DONE and changes nothing else. -/
def Obligations.FaultedStep : Prop :=
  ∀ (i : Instr) (s : State), i = .seq ∨ i = .seqFaulted → s.seqState = 6 →
    exec i s = .next { s with seqState := 7 }

/-- R100: the DONE step, and CLEANUP, which has none. -/
def Obligations.DoneStep : Prop :=
  (∀ s : State, s.seqState = 8 → exec .seq s = .refused .seqNotEnabled) ∧
  ∀ (i : Instr) (s : State), i = .seq ∨ i = .seqDone → s.seqState = 7 →
    exec i s = .next { s with seqState := 8, out := s.out ++
      [.enableChannel s.calCh false, .setFrequency s.parkCh s.parkFreq, .enableChannel s.parkCh true] }

/-- R66: where SEQ has no step, and that a step of a named state exists in that state only. -/
def Obligations.SeqExistsOnlyWhereEnabled : Prop :=
  ∀ s : State,
    (s.seqState = 0 ∨ s.seqState = 8 → exec .seq s = .refused .seqNotEnabled) ∧
    (9 ≤ s.seqState.toNat → exec .seq s = .refused .seqStateUnused) ∧
    (s.seqState ≠ 1 → exec .seqIdle s = .refused .seqNotEnabled) ∧
    (s.seqState ≠ 2 → exec .seqArmed s = .refused .seqNotEnabled) ∧
    (s.seqState ≠ 3 → exec .seqWaiting s = .refused .seqNotEnabled) ∧
    (s.seqState ≠ 4 → exec .seqMeasured s = .refused .seqNotEnabled) ∧
    (s.seqState ≠ 5 → exec .seqAdjusting s = .refused .seqNotEnabled) ∧
    (s.seqState ≠ 6 → exec .seqFaulted s = .refused .seqNotEnabled) ∧
    (s.seqState ≠ 7 → exec .seqDone s = .refused .seqNotEnabled)

/-- R69: SETTLE always stops, within seven steps, where no sequencer step is enabled. -/
def Obligations.SettleStops : Prop :=
  ∀ s : State, s.seqState.toNat < 9 → ∃ t, (∀ k, settle (7 + k) s = .next t) ∧
    (t.seqState = 0 ∨ t.seqState = 8 ∨ (t.seqState = 3 ∧ t.pgComplete = false))

/-! ### Reset (70_reset_and_hazards.md) -/

/-- R133: RESET, effective in every state, sets every element to its reset value and emits nothing. -/
def Obligations.ResetInput : Prop :=
  decode (.opw 0x05000000000000) = .ok .reset ∧ AsmLine.reset.words = [0x05000000000000] ∧
  ∀ s : State, exec .reset s = .next
    { widthLess1 := s.widthLess1, basePage := s.basePage, out := s.out, busResponse := s.busResponse, pending := s.pending
      rcCount := 0, rcOvf := 0, rcRun := false, pgEdges := 0, pgTrigEn := false, pgToggle := false, pgComplete := false
      snapRaw := 0, snapOvf := 0, meas := 0, corr := 0, prevCorr := 0, iter := 0, seqState := 0
      slf := false, stf := false, hif := false, ill := false, abortCause := 0
      ctrl := 0b1010, target := 3200000, stepSize := 50, iterCount := 24, windowN := 11, scale := 10
      calCh := 0, parkCh := 0, parkFreq := 0 }

/-- R134: the block starts in the state RESET leaves, with `out` empty and its event sources and TIMEOUT disabled. The
width 16 is R7's default; that no access has been made and nothing is presented yet is the model's choice
(notes/assumptions/1.md, 3.md, 4.md). -/
def Obligations.PowerOnIsReset : Prop :=
  State.reset.out = [] ∧ State.reset.width = 16 ∧
  State.reset.rcRun = false ∧ State.reset.pgTrigEn = false ∧ State.reset.timeoutEn = false ∧
  ∀ s : State, s.widthLess1 = State.reset.widthLess1 → s.basePage = State.reset.basePage → s.out = [] →
    s.busResponse = none → s.pending = [] → exec .reset s = .next State.reset

/-! ### Host bus (20_memory.md) -/

/-- R48 with R34, R39 and R44: what a read of each offset returns; a read changes nothing of the block. -/
def Obligations.BusReadReturnsTheRegister : Prop :=
  ∀ s : State,
    (∀ p ∈ readings s, ∃ w : Word, w.toNat = p.2 ∧
      exec (.busRd 4 (BitVec.ofNat 8 p.1)) s = .next { s with busResponse := some (.readData w) }) ∧
    (∀ ofs : Byte, 0x48 ≤ ofs.toNat → ofs.toNat ≤ 0x7C → ofs.toNat % 4 = 0 →
      exec (.busRd 4 ofs) s = .next { s with busResponse := some (.readData 0) }) ∧
    ∀ size ofs : Byte, ofs.toNat ≤ 0x7F → (size ≠ 4 ∨ ofs.toNat % 4 ≠ 0) →
      exec (.busRd size ofs) s = .next { s with busResponse := some .busError }

/-- R45, R46, R119: an access of another size, or a misaligned one, ends in a bus error and changes no state. -/
def Obligations.BusErrorsChangeNothing : Prop :=
  ∀ (s : State) (size ofs : Byte) (data : Word), ofs.toNat ≤ 0x7F → (size ≠ 4 ∨ ofs.toNat % 4 ≠ 0) →
    exec (.busRd size ofs) s = .next { s with busResponse := some .busError } ∧
    exec (.busWr size ofs data) s = .next { s with busResponse := some .busError }

/-- R44: an access outside the window is not an access to this block; the model refuses it (I11). -/
def Obligations.AccessOutsideTheWindow : Prop :=
  ∀ (s : State) (size ofs : Byte) (data : Word), 0x80 ≤ ofs.toNat →
    exec (.busRd size ofs) s = .refused .accessOutsideWindow ∧
    exec (.busWr size ofs data) s = .refused .accessOutsideWindow

/-- R50: an unlocked configuration write stores the register's defined bits and nothing else. -/
def Obligations.ConfigWriteUnlocked : Prop :=
  ∀ (s : State) (v : Word), s.locked = false →
    exec (.busWr 4 0x00 v) s = .next { s with ctrl := v.extractLsb' 0 4, busResponse := some .writeOk } ∧
    exec (.busWr 4 0x10 v) s = .next { s with target := v, busResponse := some .writeOk } ∧
    exec (.busWr 4 0x14 v) s = .next { s with stepSize := v.extractLsb' 0 16, busResponse := some .writeOk } ∧
    exec (.busWr 4 0x18 v) s = .next { s with iterCount := v.extractLsb' 0 8, busResponse := some .writeOk } ∧
    exec (.busWr 4 0x1C v) s = .next { s with windowN := v.extractLsb' 0 8, busResponse := some .writeOk } ∧
    exec (.busWr 4 0x20 v) s = .next { s with scale := v.extractLsb' 0 16, busResponse := some .writeOk } ∧
    exec (.busWr 4 0x24 v) s = .next
      { s with calCh := v.extractLsb' 0 8, parkCh := v.extractLsb' 8 8, busResponse := some .writeOk } ∧
    exec (.busWr 4 0x28 v) s = .next { s with parkFreq := v, busResponse := some .writeOk }

/-- R51: a configuration write while LOCKED = 1 changes none of the registers and sets FAULT.ILL. -/
def Obligations.ConfigWriteLocked : Prop :=
  ∀ (s : State) (v : Word) (ofs : Byte), s.locked = true →
    ofs.toNat ∈ [0x00, 0x10, 0x14, 0x18, 0x1C, 0x20, 0x24, 0x28] →
      exec (.busWr 4 ofs v) s = .next { s with ill := true, busResponse := some .writeOk }

/-- R52: a write to CORR. -/
def Obligations.CorrWrite : Prop :=
  ∀ (s : State) (v : Word), exec (.busWr 4 0x2C v) s = .next
    (if s.busy then { s with ill := true, busResponse := some .writeOk }
     else { s with corr := v, busResponse := some .writeOk })

/-- R49 at 0x0C: FAULT is write-1-to-clear; ABORT_CAUSE is unaffected. -/
def Obligations.FaultWriteOneToClear : Prop :=
  ∀ (s : State) (v : Word), exec (.busWr 4 0x0C v) s = .next { s with
    busResponse := some .writeOk
    slf := if v.getLsbD 0 then false else s.slf
    stf := if v.getLsbD 1 then false else s.stf
    hif := if v.getLsbD 2 then false else s.hif
    ill := if v.getLsbD 3 then false else s.ill }

/-- R49, R44: writes to the read-only and the reserved offsets are ignored. -/
def Obligations.ReadOnlyWritesAreIgnored : Prop :=
  ∀ (s : State) (v : Word) (ofs : Byte), ofs.toNat % 4 = 0 →
    (ofs.toNat = 0x08 ∨ (0x30 ≤ ofs.toNat ∧ ofs.toNat ≤ 0x7C)) →
      exec (.busWr 4 ofs v) s = .next { s with busResponse := some .writeOk }

/-! ### Arithmetic (43_arithmetic.md) -/

/-- R108, R109: MeasFreq is exact in 64 bits for every legal counter width. -/
def Obligations.MeasFreqIsExact : Prop :=
  ∀ (W : Nat) (raw : BitVec 16) (ovf : BitVec 32) (scale : BitVec 16), 1 ≤ W → W ≤ 16 → raw.toNat < 2 ^ W →
    (measFreq (2 ^ W) raw ovf scale).toNat = (raw.toNat + 2 ^ W * ovf.toNat) * scale.toNat ∧
    raw.toNat + 2 ^ W * ovf.toNat ≤ 2 ^ (W + 32) - 1 ∧
    (raw.toNat + 2 ^ W * ovf.toNat) * scale.toNat < 2 ^ (W + 48) ∧ 2 ^ (W + 48) ≤ 2 ^ 64

/-- R112, R115: Huff compares unsigned and steps in two's complement modulo 2^32. -/
def Obligations.HuffStepsBySign : Prop :=
  ∀ (corr : Word) (meas : BitVec 64) (target : Word) (step : BitVec 16),
    (huff corr meas target step).toInt =
      if meas.toNat < target.toNat then (corr.toInt - step.toNat).bmod (2 ^ 32)
      else if target.toNat < meas.toNat then (corr.toInt + step.toNat).bmod (2 ^ 32)
      else corr.toInt

/-! ### Whole-machine rules -/

/-- The invariant holds at power-on, for every counter width, base address and schedule. -/
def Obligations.PowerOnMeetsInvariant : Prop :=
  ∀ (w : Fin 16) (page : Nat) (ops : List RawOp), Inv (powerOn w page ops)

/-- Every step keeps the invariant. -/
def Obligations.StepKeepsInvariant : Prop :=
  ∀ s t : State, Inv s → step s = .next t → Inv t

/-- R42: its six clauses hold in every reachable state, under every schedule of operations. -/
def Obligations.ReachableStatesObeyInvariants : Prop :=
  ∀ s : State, Reachable s → R42 s

/-- R106: every change of STATE is one of the table's edges, taken under its condition by the step it names. -/
def Obligations.SequencerGraph : Prop :=
  ∀ (i : Instr) (s t : State), s.seqState.toNat < 9 → exec i s = .next t → t.seqState ≠ s.seqState →
    (i = .reset ∧ t.seqState = 0) ∨
    (isCommand i .cmdRun 1 ∧ (s.seqState = 0 ∨ s.seqState = 8) ∧ t.seqState = 1) ∨
    (i = .timeout ∧ s.timeoutEn = true ∧ s.pgComplete = false ∧ s.seqState = 3 ∧ t.seqState = 6) ∨
    isSeqEdge i s t.seqState

/-- R51 over all operations: while LOCKED = 1 no step but RESET changes a configuration register. -/
def Obligations.LockedConfigurationIsStatic : Prop :=
  ∀ (i : Instr) (s t : State), s.locked = true → i ≠ .reset → exec i s = .next t → SameConfig s t

/-- The parameters W and BASE never change (R7, R8). -/
def Obligations.ParametersNeverChange : Prop :=
  ∀ s t : State, step s = .next t → t.width = s.width ∧ t.base = s.base

/-- R28 with R133: which steps change CORR, and when. -/
def Obligations.CorrChangesOnlyBy : Prop :=
  ∀ (i : Instr) (s t : State), exec i s = .next t → t.corr ≠ s.corr →
    i = .reset ∨
    (isCommand i .cmdAdjust 5 ∧ s.busy = false ∧ s.meas ≠ 0 ∧ t.prevCorr = s.corr) ∨
    ((i = .seq ∨ i = .seqAdjusting) ∧ s.seqState = 5 ∧ t.prevCorr = s.corr) ∨
    (isWrite i 0x2C t.corr ∧ s.busy = false)

/-- R26, R27: which steps change the snapshot and the measurement, and when. -/
def Obligations.MeasurementChangesOnlyBy : Prop :=
  ∀ (i : Instr) (s t : State), exec i s = .next t →
    (t.snapRaw ≠ s.snapRaw ∨ t.snapOvf ≠ s.snapOvf →
      i = .reset ∨ (isCommand i .cmdSnapshot 3 ∧ s.busy = false ∧ s.pgTrigEn = false) ∨
      ((i = .seq ∨ i = .seqWaiting) ∧ s.seqState = 3 ∧ s.pgComplete = true)) ∧
    (t.meas ≠ s.meas →
      i = .reset ∨ (isCommand i .cmdMeasure 4 ∧ s.busy = false) ∨
      ((i = .seq ∨ i = .seqWaiting) ∧ s.seqState = 3 ∧ s.pgComplete = true))

/-- R33: a sticky FAULT bit is cleared only by a host write of 1 to it or by reset. -/
def Obligations.StickyBitsStay : Prop :=
  ∀ (i : Instr) (s t : State), exec i s = .next t → i ≠ .reset →
    (s.slf = true → t.slf = false → ∃ v : Word, isWrite i 0x0C v ∧ v.getLsbD 0 = true) ∧
    (s.stf = true → t.stf = false → ∃ v : Word, isWrite i 0x0C v ∧ v.getLsbD 1 = true) ∧
    (s.hif = true → t.hif = false → ∃ v : Word, isWrite i 0x0C v ∧ v.getLsbD 2 = true) ∧
    (s.ill = true → t.ill = false → ∃ v : Word, isWrite i 0x0C v ∧ v.getLsbD 3 = true)

/-- R125, R120: the step that takes an aborting fault makes that fault's own writes and no other. -/
def Obligations.FaultEntryIsPrecise : Prop :=
  ∀ (i : Instr) (s t : State), exec i s = .next t → s.seqState ≠ 6 → t.seqState = 6 →
    t = { s with seqState := 6, slf := true, abortCause := 1, out := s.out ++ [.logFault 1 s.iter] } ∨
    t = { s with seqState := 6, stf := true, abortCause := 2, out := s.out ++ [.logFault 2 s.iter],
                 rcRun := false, pgTrigEn := false } ∨
    t = { s with seqState := 6, hif := true, abortCause := 3, out := s.out ++ [.logFault 3 s.iter] }

/-- R41, R12: a step appends records to `out` and never reads it; nor does it read the host's response or what is
presented next, which are the model's own. -/
def Obligations.OutputIsAppendedAndNeverRead : Prop :=
  ∀ (i : Instr) (s t : State), exec i s = .next t → ∃ records : List OutRecord,
    ∀ (o : List OutRecord) (b : Option BusResponse) (p : List RawOp),
      exec i { s with out := o, busResponse := b, pending := p } = .next
        { t with out := o ++ records, pending := p, busResponse := if isHostAccess i then t.busResponse else b }

/-! ### Laws of the cycle -/

/-- R103: iteration 0 measures, but changes neither CORR nor PREV_CORR, emits no record and raises no fault. -/
def Obligations.IterationZeroIsDiscarded : Prop :=
  ∀ (s : State) (T : Nat) (evs : List Instr), s.seqState = 1 → s.iter = 0 → 0 < s.iterCount.toNat →
    2 ≤ s.windowN.toNat → WindowOf s.edgeMode s.windowN.toNat T evs →
      ∃ t, runInstrs (discardedIteration evs) s = .next t ∧ t.seqState = 1 ∧ t.iter = 1 ∧
        t.meas.toNat = T % (s.modulus * 2 ^ 32) * s.scale.toNat ∧
        t.snapOvf.toNat * s.modulus + t.snapRaw.toNat = T % (s.modulus * 2 ^ 32) ∧
        t.corr = s.corr ∧ t.prevCorr = s.prevCorr ∧ t.out = s.out ∧
        t.slf = s.slf ∧ t.stf = s.stf ∧ t.hif = s.hif ∧ t.ill = s.ill ∧ t.abortCause = s.abortCause

/-- R89, R116 and R114: an iteration from 1 on measures exactly T · SCALE and makes one step of ±STEP on CORR. -/
def Obligations.IterationAdjustsOnce : Prop :=
  ∀ (s : State) (T : Nat) (evs : List Instr), s.seqState = 1 → 1 ≤ s.iter.toNat →
    s.iter.toNat < s.iterCount.toNat → 2 ≤ s.windowN.toNat →
    WindowOf s.edgeMode s.windowN.toNat T evs → T < s.modulus * 2 ^ 32 → T * s.scale.toNat ≠ 0 →
      ∃ t, runInstrs (adjustingIteration evs) s = .next t ∧ t.seqState = 1 ∧ t.iter.toNat = s.iter.toNat + 1 ∧
        t.meas.toNat = T * s.scale.toNat ∧ t.prevCorr = s.corr ∧
        t.corr = stepped s.corr (T * s.scale.toNat) s.target.toNat s.stepSize ∧
        t.out = s.out ++ iterationRecords s s.iter.toNat s.corr T

/-- R104: a cycle without a fault, from RUN to CLEANUP: with I = 0 the start and cleanup records and nothing armed, with
I ≥ 1 a discarded iteration and I - 1 adjustments. An adjusting window's T is below M * 2^32 and measures not 0. -/
def Obligations.NormalCycle : Prop :=
  (∀ s : State, s.busy = false → s.iterCount = 0 →
    runInstrs [.cmdRun, .seq, .seq] s = .next { s with
      iter := 0, prevCorr := s.corr, abortCause := 0, seqState := 8, busResponse := some .writeOk
      out := s.out ++ (startRecords s ++ cleanupRecords s) }) ∧
  ∀ (s : State) (T₀ : Nat) (evs₀ : List Instr) (Ts : List Nat) (evss : List (List Instr)),
    s.busy = false → 2 ≤ s.windowN.toNat → s.iterCount.toNat = evss.length + 1 →
    WindowOf s.edgeMode s.windowN.toNat T₀ evs₀ →
    List.Forall₂ (WindowOf s.edgeMode s.windowN.toNat) Ts evss →
    (∀ T ∈ Ts, T < s.modulus * 2 ^ 32 ∧ T * s.scale.toNat ≠ 0) →
      ∃ t, runInstrs (cycleOps evs₀ evss) s = .next t ∧ t.seqState = 8 ∧ t.iter = s.iterCount ∧
        t.corr = cycleCorr s s.corr Ts ∧ t.prevCorr = cycleCorr s s.corr Ts.dropLast ∧
        t.out = s.out ++ (startRecords s ++ (cycleRecords s 1 s.corr Ts ++ cleanupRecords s)) ∧
        t.abortCause = 0 ∧ t.slf = s.slf ∧ t.stf = s.stf ∧ t.hif = s.hif ∧ t.ill = s.ill

/-- R105 for signal loss: after the iterations 1..k-1 a window measures 0 on iteration k with ABORT_ON_LOSS = 1: it counts
no edge, or a multiple of M * 2^32 of them, or SCALE = 0 (R97). CORR at CLEANUP is that of iteration k-1, and the
cleanup records follow the LogFault record. -/
def Obligations.SignalLossAbortsTheCycle : Prop :=
  ∀ (s : State) (T₀ : Nat) (evs₀ : List Instr) (Ts : List Nat) (evss : List (List Instr)) (T : Nat)
    (evs : List Instr),
    s.busy = false → 2 ≤ s.windowN.toNat → s.abortOnLoss = true → evss.length + 1 < s.iterCount.toNat →
    WindowOf s.edgeMode s.windowN.toNat T₀ evs₀ →
    List.Forall₂ (WindowOf s.edgeMode s.windowN.toNat) Ts evss →
    (∀ T ∈ Ts, T < s.modulus * 2 ^ 32 ∧ T * s.scale.toNat ≠ 0) →
    WindowOf s.edgeMode s.windowN.toNat T evs → T % (s.modulus * 2 ^ 32) * s.scale.toNat = 0 →
      ∃ t, runInstrs (.cmdRun :: (discardedIteration evs₀ ++ (evss.flatMap adjustingIteration ++
          (discardedIteration evs ++ [.seq, .seq])))) s = .next t ∧
        t.seqState = 8 ∧ t.iter.toNat = evss.length + 1 ∧ t.corr = cycleCorr s s.corr Ts ∧
        t.slf = true ∧ t.abortCause = 1 ∧
        t.out = s.out ++ (startRecords s ++ (cycleRecords s 1 s.corr Ts ++
          (.logFault 1 (BitVec.ofNat 8 (evss.length + 1)) :: cleanupRecords s)))
end

