-- ==== Sys2Proof/Laws/Decode.lean ====
section
/-! SUPPORT. The fields of an operation word, and the decoder's helpers. -/

namespace Sys2Proof

/-- An operation word as a number: its fields at their places (R62). -/
theorem opwOf_toNat (cls size ofs : Byte) (data : Word) :
    (opwOf cls size ofs data).toNat =
      ((cls.toNat * 2 ^ 8 + size.toNat) * 2 ^ 8 + ofs.toNat) * 2 ^ 32 + data.toNat := by
  have e1 := Nat.shiftLeft_add_eq_or_of_lt size.isLt cls.toNat
  have e2 := Nat.shiftLeft_add_eq_or_of_lt ofs.isLt (cls.toNat * 2 ^ 8 + size.toNat)
  have e3 := Nat.shiftLeft_add_eq_or_of_lt data.isLt ((cls.toNat * 2 ^ 8 + size.toNat) * 2 ^ 8 + ofs.toNat)
  rw [Nat.shiftLeft_eq] at e1 e2 e3
  simp only [opwOf, BitVec.toNat_append, Nat.shiftLeft_eq]
  rw [← e1, ← e2, ← e3]

/-- The CLASS field of a word put together from its fields (R62). -/
@[simp] theorem opwClass_opwOf (cls size ofs : Byte) (data : Word) : opwClass (opwOf cls size ofs data) = cls := by
  have h1 := cls.isLt; have h2 := size.isLt; have h3 := ofs.isLt; have h4 := data.isLt
  apply BitVec.eq_of_toNat_eq
  simp only [opwClass, BitVec.extractLsb'_toNat, opwOf_toNat, Nat.shiftRight_eq_div_pow]
  omega

/-- The SIZE field of a word put together from its fields (R62). -/
@[simp] theorem opwSize_opwOf (cls size ofs : Byte) (data : Word) : opwSize (opwOf cls size ofs data) = size := by
  have h1 := cls.isLt; have h2 := size.isLt; have h3 := ofs.isLt; have h4 := data.isLt
  apply BitVec.eq_of_toNat_eq
  simp only [opwSize, BitVec.extractLsb'_toNat, opwOf_toNat, Nat.shiftRight_eq_div_pow]
  omega

/-- The OFS field of a word put together from its fields (R62). -/
@[simp] theorem opwOfs_opwOf (cls size ofs : Byte) (data : Word) : opwOfs (opwOf cls size ofs data) = ofs := by
  have h1 := cls.isLt; have h2 := size.isLt; have h3 := ofs.isLt; have h4 := data.isLt
  apply BitVec.eq_of_toNat_eq
  simp only [opwOfs, BitVec.extractLsb'_toNat, opwOf_toNat, Nat.shiftRight_eq_div_pow]
  omega

/-- The DATA field of a word put together from its fields (R62). -/
@[simp] theorem opwData_opwOf (cls size ofs : Byte) (data : Word) : opwData (opwOf cls size ofs data) = data := by
  have h1 := cls.isLt; have h2 := size.isLt; have h3 := ofs.isLt; have h4 := data.isLt
  apply BitVec.eq_of_toNat_eq
  simp only [opwData, BitVec.extractLsb'_toNat, opwOf_toNat, Nat.shiftRight_eq_div_pow]
  omega

/-- Every bit of an operation word lies in one of its four fields (R62). -/
theorem opwOf_fields (w : OpWord) : opwOf (opwClass w) (opwSize w) (opwOfs w) (opwData w) = w := by
  have h := w.isLt
  apply BitVec.eq_of_toNat_eq
  simp only [opwOf_toNat, opwClass, opwSize, opwOfs, opwData, BitVec.extractLsb'_toNat, Nat.shiftRight_eq_div_pow]
  omega

/-- What an operation without operands decodes to (R62). -/
theorem decodeBare_ok {w : OpWord} {i j : Instr} (h : decodeBare w i = .ok j) :
    j = i ∧ opwSize w = 0 ∧ opwOfs w = 0 ∧ opwData w = 0 := by
  unfold decodeBare at h
  split at h
  · rename_i hz; cases h; exact ⟨rfl, hz⟩
  · cases h

/-- What a BUS_RD word decodes to (R62, R44). -/
theorem decodeBusRd_ok {w : OpWord} {j : Instr} (h : decodeBusRd w = .ok j) :
    j = .busRd (opwSize w) (opwOfs w) ∧ offsetInWindow (opwOfs w) = true ∧ opwData w = 0 := by
  unfold decodeBusRd at h
  split at h
  · cases h
  · rename_i hd
    split at h
    · rename_i ho; cases h; exact ⟨rfl, ho, not_not.mp hd⟩
    · cases h

/-- What a BUS_WR word decodes to (R62, R44). -/
theorem decodeBusWr_ok {w : OpWord} {j : Instr} (h : decodeBusWr w = .ok j) :
    j = .busWr (opwSize w) (opwOfs w) (opwData w) ∧ offsetInWindow (opwOfs w) = true := by
  unfold decodeBusWr at h
  split at h
  · rename_i ho; cases h; exact ⟨rfl, ho⟩
  · cases h

end Sys2Proof
end

