-- ==== Sys2Proof/Laws/State.lean ====
section
/-! SUPPORT. One lemma per field per update of State, and per derived value an update leaves alone. -/

namespace Sys2Proof.Machine

variable (s : State)

/-! ### emit -/

@[simp] theorem State.emit_widthLess1 (r : OutRecord) : (s.emit r).widthLess1 = s.widthLess1 := rfl
@[simp] theorem State.emit_basePage (r : OutRecord) : (s.emit r).basePage = s.basePage := rfl
@[simp] theorem State.emit_rcCount (r : OutRecord) : (s.emit r).rcCount = s.rcCount := rfl
@[simp] theorem State.emit_rcOvf (r : OutRecord) : (s.emit r).rcOvf = s.rcOvf := rfl
@[simp] theorem State.emit_rcRun (r : OutRecord) : (s.emit r).rcRun = s.rcRun := rfl
@[simp] theorem State.emit_pgEdges (r : OutRecord) : (s.emit r).pgEdges = s.pgEdges := rfl
@[simp] theorem State.emit_pgTrigEn (r : OutRecord) : (s.emit r).pgTrigEn = s.pgTrigEn := rfl
@[simp] theorem State.emit_pgToggle (r : OutRecord) : (s.emit r).pgToggle = s.pgToggle := rfl
@[simp] theorem State.emit_pgComplete (r : OutRecord) : (s.emit r).pgComplete = s.pgComplete := rfl
@[simp] theorem State.emit_snapRaw (r : OutRecord) : (s.emit r).snapRaw = s.snapRaw := rfl
@[simp] theorem State.emit_snapOvf (r : OutRecord) : (s.emit r).snapOvf = s.snapOvf := rfl
@[simp] theorem State.emit_meas (r : OutRecord) : (s.emit r).meas = s.meas := rfl
@[simp] theorem State.emit_corr (r : OutRecord) : (s.emit r).corr = s.corr := rfl
@[simp] theorem State.emit_prevCorr (r : OutRecord) : (s.emit r).prevCorr = s.prevCorr := rfl
@[simp] theorem State.emit_iter (r : OutRecord) : (s.emit r).iter = s.iter := rfl
@[simp] theorem State.emit_seqState (r : OutRecord) : (s.emit r).seqState = s.seqState := rfl
@[simp] theorem State.emit_slf (r : OutRecord) : (s.emit r).slf = s.slf := rfl
@[simp] theorem State.emit_stf (r : OutRecord) : (s.emit r).stf = s.stf := rfl
@[simp] theorem State.emit_hif (r : OutRecord) : (s.emit r).hif = s.hif := rfl
@[simp] theorem State.emit_ill (r : OutRecord) : (s.emit r).ill = s.ill := rfl
@[simp] theorem State.emit_abortCause (r : OutRecord) : (s.emit r).abortCause = s.abortCause := rfl
@[simp] theorem State.emit_ctrl (r : OutRecord) : (s.emit r).ctrl = s.ctrl := rfl
@[simp] theorem State.emit_target (r : OutRecord) : (s.emit r).target = s.target := rfl
@[simp] theorem State.emit_stepSize (r : OutRecord) : (s.emit r).stepSize = s.stepSize := rfl
@[simp] theorem State.emit_iterCount (r : OutRecord) : (s.emit r).iterCount = s.iterCount := rfl
@[simp] theorem State.emit_windowN (r : OutRecord) : (s.emit r).windowN = s.windowN := rfl
@[simp] theorem State.emit_scale (r : OutRecord) : (s.emit r).scale = s.scale := rfl
@[simp] theorem State.emit_calCh (r : OutRecord) : (s.emit r).calCh = s.calCh := rfl
@[simp] theorem State.emit_parkCh (r : OutRecord) : (s.emit r).parkCh = s.parkCh := rfl
@[simp] theorem State.emit_parkFreq (r : OutRecord) : (s.emit r).parkFreq = s.parkFreq := rfl
@[simp] theorem State.emit_out (r : OutRecord) : (s.emit r).out = s.out ++ [r] := rfl
@[simp] theorem State.emit_busResponse (r : OutRecord) : (s.emit r).busResponse = s.busResponse := rfl
@[simp] theorem State.emit_pending (r : OutRecord) : (s.emit r).pending = s.pending := rfl
@[simp] theorem State.emit_busy (r : OutRecord) : (s.emit r).busy = s.busy := rfl
@[simp] theorem State.emit_locked (r : OutRecord) : (s.emit r).locked = s.locked := rfl
@[simp] theorem State.emit_edgeMode (r : OutRecord) : (s.emit r).edgeMode = s.edgeMode := rfl
@[simp] theorem State.emit_abortOnLoss (r : OutRecord) : (s.emit r).abortOnLoss = s.abortOnLoss := rfl
@[simp] theorem State.emit_timeoutEn (r : OutRecord) : (s.emit r).timeoutEn = s.timeoutEn := rfl
@[simp] theorem State.emit_logEn (r : OutRecord) : (s.emit r).logEn = s.logEn := rfl
@[simp] theorem State.emit_width (r : OutRecord) : (s.emit r).width = s.width := rfl
@[simp] theorem State.emit_modulus (r : OutRecord) : (s.emit r).modulus = s.modulus := rfl
@[simp] theorem State.emit_base (r : OutRecord) : (s.emit r).base = s.base := rfl
@[simp] theorem State.emit_armable (r : OutRecord) : (s.emit r).armable = s.armable := rfl

/-! ### goto -/

@[simp] theorem State.goto_widthLess1 (st : SeqState) : (s.goto st).widthLess1 = s.widthLess1 := rfl
@[simp] theorem State.goto_basePage (st : SeqState) : (s.goto st).basePage = s.basePage := rfl
@[simp] theorem State.goto_rcCount (st : SeqState) : (s.goto st).rcCount = s.rcCount := rfl
@[simp] theorem State.goto_rcOvf (st : SeqState) : (s.goto st).rcOvf = s.rcOvf := rfl
@[simp] theorem State.goto_rcRun (st : SeqState) : (s.goto st).rcRun = s.rcRun := rfl
@[simp] theorem State.goto_pgEdges (st : SeqState) : (s.goto st).pgEdges = s.pgEdges := rfl
@[simp] theorem State.goto_pgTrigEn (st : SeqState) : (s.goto st).pgTrigEn = s.pgTrigEn := rfl
@[simp] theorem State.goto_pgToggle (st : SeqState) : (s.goto st).pgToggle = s.pgToggle := rfl
@[simp] theorem State.goto_pgComplete (st : SeqState) : (s.goto st).pgComplete = s.pgComplete := rfl
@[simp] theorem State.goto_snapRaw (st : SeqState) : (s.goto st).snapRaw = s.snapRaw := rfl
@[simp] theorem State.goto_snapOvf (st : SeqState) : (s.goto st).snapOvf = s.snapOvf := rfl
@[simp] theorem State.goto_meas (st : SeqState) : (s.goto st).meas = s.meas := rfl
@[simp] theorem State.goto_corr (st : SeqState) : (s.goto st).corr = s.corr := rfl
@[simp] theorem State.goto_prevCorr (st : SeqState) : (s.goto st).prevCorr = s.prevCorr := rfl
@[simp] theorem State.goto_iter (st : SeqState) : (s.goto st).iter = s.iter := rfl
@[simp] theorem State.goto_seqState (st : SeqState) : (s.goto st).seqState = st.bits := rfl
@[simp] theorem State.goto_slf (st : SeqState) : (s.goto st).slf = s.slf := rfl
@[simp] theorem State.goto_stf (st : SeqState) : (s.goto st).stf = s.stf := rfl
@[simp] theorem State.goto_hif (st : SeqState) : (s.goto st).hif = s.hif := rfl
@[simp] theorem State.goto_ill (st : SeqState) : (s.goto st).ill = s.ill := rfl
@[simp] theorem State.goto_abortCause (st : SeqState) : (s.goto st).abortCause = s.abortCause := rfl
@[simp] theorem State.goto_ctrl (st : SeqState) : (s.goto st).ctrl = s.ctrl := rfl
@[simp] theorem State.goto_target (st : SeqState) : (s.goto st).target = s.target := rfl
@[simp] theorem State.goto_stepSize (st : SeqState) : (s.goto st).stepSize = s.stepSize := rfl
@[simp] theorem State.goto_iterCount (st : SeqState) : (s.goto st).iterCount = s.iterCount := rfl
@[simp] theorem State.goto_windowN (st : SeqState) : (s.goto st).windowN = s.windowN := rfl
@[simp] theorem State.goto_scale (st : SeqState) : (s.goto st).scale = s.scale := rfl
@[simp] theorem State.goto_calCh (st : SeqState) : (s.goto st).calCh = s.calCh := rfl
@[simp] theorem State.goto_parkCh (st : SeqState) : (s.goto st).parkCh = s.parkCh := rfl
@[simp] theorem State.goto_parkFreq (st : SeqState) : (s.goto st).parkFreq = s.parkFreq := rfl
@[simp] theorem State.goto_out (st : SeqState) : (s.goto st).out = s.out := rfl
@[simp] theorem State.goto_busResponse (st : SeqState) : (s.goto st).busResponse = s.busResponse := rfl
@[simp] theorem State.goto_pending (st : SeqState) : (s.goto st).pending = s.pending := rfl
@[simp] theorem State.goto_edgeMode (st : SeqState) : (s.goto st).edgeMode = s.edgeMode := rfl
@[simp] theorem State.goto_abortOnLoss (st : SeqState) : (s.goto st).abortOnLoss = s.abortOnLoss := rfl
@[simp] theorem State.goto_timeoutEn (st : SeqState) : (s.goto st).timeoutEn = s.timeoutEn := rfl
@[simp] theorem State.goto_logEn (st : SeqState) : (s.goto st).logEn = s.logEn := rfl
@[simp] theorem State.goto_width (st : SeqState) : (s.goto st).width = s.width := rfl
@[simp] theorem State.goto_modulus (st : SeqState) : (s.goto st).modulus = s.modulus := rfl
@[simp] theorem State.goto_base (st : SeqState) : (s.goto st).base = s.base := rfl
@[simp] theorem State.goto_armable (st : SeqState) : (s.goto st).armable = s.armable := rfl

/-! ### setIll -/

@[simp] theorem State.setIll_widthLess1 : s.setIll.widthLess1 = s.widthLess1 := rfl
@[simp] theorem State.setIll_basePage : s.setIll.basePage = s.basePage := rfl
@[simp] theorem State.setIll_rcCount : s.setIll.rcCount = s.rcCount := rfl
@[simp] theorem State.setIll_rcOvf : s.setIll.rcOvf = s.rcOvf := rfl
@[simp] theorem State.setIll_rcRun : s.setIll.rcRun = s.rcRun := rfl
@[simp] theorem State.setIll_pgEdges : s.setIll.pgEdges = s.pgEdges := rfl
@[simp] theorem State.setIll_pgTrigEn : s.setIll.pgTrigEn = s.pgTrigEn := rfl
@[simp] theorem State.setIll_pgToggle : s.setIll.pgToggle = s.pgToggle := rfl
@[simp] theorem State.setIll_pgComplete : s.setIll.pgComplete = s.pgComplete := rfl
@[simp] theorem State.setIll_snapRaw : s.setIll.snapRaw = s.snapRaw := rfl
@[simp] theorem State.setIll_snapOvf : s.setIll.snapOvf = s.snapOvf := rfl
@[simp] theorem State.setIll_meas : s.setIll.meas = s.meas := rfl
@[simp] theorem State.setIll_corr : s.setIll.corr = s.corr := rfl
@[simp] theorem State.setIll_prevCorr : s.setIll.prevCorr = s.prevCorr := rfl
@[simp] theorem State.setIll_iter : s.setIll.iter = s.iter := rfl
@[simp] theorem State.setIll_seqState : s.setIll.seqState = s.seqState := rfl
@[simp] theorem State.setIll_slf : s.setIll.slf = s.slf := rfl
@[simp] theorem State.setIll_stf : s.setIll.stf = s.stf := rfl
@[simp] theorem State.setIll_hif : s.setIll.hif = s.hif := rfl
@[simp] theorem State.setIll_ill : s.setIll.ill = true := rfl
@[simp] theorem State.setIll_abortCause : s.setIll.abortCause = s.abortCause := rfl
@[simp] theorem State.setIll_ctrl : s.setIll.ctrl = s.ctrl := rfl
@[simp] theorem State.setIll_target : s.setIll.target = s.target := rfl
@[simp] theorem State.setIll_stepSize : s.setIll.stepSize = s.stepSize := rfl
@[simp] theorem State.setIll_iterCount : s.setIll.iterCount = s.iterCount := rfl
@[simp] theorem State.setIll_windowN : s.setIll.windowN = s.windowN := rfl
@[simp] theorem State.setIll_scale : s.setIll.scale = s.scale := rfl
@[simp] theorem State.setIll_calCh : s.setIll.calCh = s.calCh := rfl
@[simp] theorem State.setIll_parkCh : s.setIll.parkCh = s.parkCh := rfl
@[simp] theorem State.setIll_parkFreq : s.setIll.parkFreq = s.parkFreq := rfl
@[simp] theorem State.setIll_out : s.setIll.out = s.out := rfl
@[simp] theorem State.setIll_busResponse : s.setIll.busResponse = s.busResponse := rfl
@[simp] theorem State.setIll_pending : s.setIll.pending = s.pending := rfl
@[simp] theorem State.setIll_busy : s.setIll.busy = s.busy := rfl
@[simp] theorem State.setIll_locked : s.setIll.locked = s.locked := rfl
@[simp] theorem State.setIll_edgeMode : s.setIll.edgeMode = s.edgeMode := rfl
@[simp] theorem State.setIll_abortOnLoss : s.setIll.abortOnLoss = s.abortOnLoss := rfl
@[simp] theorem State.setIll_timeoutEn : s.setIll.timeoutEn = s.timeoutEn := rfl
@[simp] theorem State.setIll_logEn : s.setIll.logEn = s.logEn := rfl
@[simp] theorem State.setIll_width : s.setIll.width = s.width := rfl
@[simp] theorem State.setIll_modulus : s.setIll.modulus = s.modulus := rfl
@[simp] theorem State.setIll_base : s.setIll.base = s.base := rfl
@[simp] theorem State.setIll_armable : s.setIll.armable = s.armable := rfl

/-! ### respond -/

@[simp] theorem State.respond_widthLess1 (r : BusResponse) : (s.respond r).widthLess1 = s.widthLess1 := rfl
@[simp] theorem State.respond_basePage (r : BusResponse) : (s.respond r).basePage = s.basePage := rfl
@[simp] theorem State.respond_rcCount (r : BusResponse) : (s.respond r).rcCount = s.rcCount := rfl
@[simp] theorem State.respond_rcOvf (r : BusResponse) : (s.respond r).rcOvf = s.rcOvf := rfl
@[simp] theorem State.respond_rcRun (r : BusResponse) : (s.respond r).rcRun = s.rcRun := rfl
@[simp] theorem State.respond_pgEdges (r : BusResponse) : (s.respond r).pgEdges = s.pgEdges := rfl
@[simp] theorem State.respond_pgTrigEn (r : BusResponse) : (s.respond r).pgTrigEn = s.pgTrigEn := rfl
@[simp] theorem State.respond_pgToggle (r : BusResponse) : (s.respond r).pgToggle = s.pgToggle := rfl
@[simp] theorem State.respond_pgComplete (r : BusResponse) : (s.respond r).pgComplete = s.pgComplete := rfl
@[simp] theorem State.respond_snapRaw (r : BusResponse) : (s.respond r).snapRaw = s.snapRaw := rfl
@[simp] theorem State.respond_snapOvf (r : BusResponse) : (s.respond r).snapOvf = s.snapOvf := rfl
@[simp] theorem State.respond_meas (r : BusResponse) : (s.respond r).meas = s.meas := rfl
@[simp] theorem State.respond_corr (r : BusResponse) : (s.respond r).corr = s.corr := rfl
@[simp] theorem State.respond_prevCorr (r : BusResponse) : (s.respond r).prevCorr = s.prevCorr := rfl
@[simp] theorem State.respond_iter (r : BusResponse) : (s.respond r).iter = s.iter := rfl
@[simp] theorem State.respond_seqState (r : BusResponse) : (s.respond r).seqState = s.seqState := rfl
@[simp] theorem State.respond_slf (r : BusResponse) : (s.respond r).slf = s.slf := rfl
@[simp] theorem State.respond_stf (r : BusResponse) : (s.respond r).stf = s.stf := rfl
@[simp] theorem State.respond_hif (r : BusResponse) : (s.respond r).hif = s.hif := rfl
@[simp] theorem State.respond_ill (r : BusResponse) : (s.respond r).ill = s.ill := rfl
@[simp] theorem State.respond_abortCause (r : BusResponse) : (s.respond r).abortCause = s.abortCause := rfl
@[simp] theorem State.respond_ctrl (r : BusResponse) : (s.respond r).ctrl = s.ctrl := rfl
@[simp] theorem State.respond_target (r : BusResponse) : (s.respond r).target = s.target := rfl
@[simp] theorem State.respond_stepSize (r : BusResponse) : (s.respond r).stepSize = s.stepSize := rfl
@[simp] theorem State.respond_iterCount (r : BusResponse) : (s.respond r).iterCount = s.iterCount := rfl
@[simp] theorem State.respond_windowN (r : BusResponse) : (s.respond r).windowN = s.windowN := rfl
@[simp] theorem State.respond_scale (r : BusResponse) : (s.respond r).scale = s.scale := rfl
@[simp] theorem State.respond_calCh (r : BusResponse) : (s.respond r).calCh = s.calCh := rfl
@[simp] theorem State.respond_parkCh (r : BusResponse) : (s.respond r).parkCh = s.parkCh := rfl
@[simp] theorem State.respond_parkFreq (r : BusResponse) : (s.respond r).parkFreq = s.parkFreq := rfl
@[simp] theorem State.respond_out (r : BusResponse) : (s.respond r).out = s.out := rfl
@[simp] theorem State.respond_busResponse (r : BusResponse) : (s.respond r).busResponse = some r := rfl
@[simp] theorem State.respond_pending (r : BusResponse) : (s.respond r).pending = s.pending := rfl
@[simp] theorem State.respond_busy (r : BusResponse) : (s.respond r).busy = s.busy := rfl
@[simp] theorem State.respond_locked (r : BusResponse) : (s.respond r).locked = s.locked := rfl
@[simp] theorem State.respond_edgeMode (r : BusResponse) : (s.respond r).edgeMode = s.edgeMode := rfl
@[simp] theorem State.respond_abortOnLoss (r : BusResponse) : (s.respond r).abortOnLoss = s.abortOnLoss := rfl
@[simp] theorem State.respond_timeoutEn (r : BusResponse) : (s.respond r).timeoutEn = s.timeoutEn := rfl
@[simp] theorem State.respond_logEn (r : BusResponse) : (s.respond r).logEn = s.logEn := rfl
@[simp] theorem State.respond_width (r : BusResponse) : (s.respond r).width = s.width := rfl
@[simp] theorem State.respond_modulus (r : BusResponse) : (s.respond r).modulus = s.modulus := rfl
@[simp] theorem State.respond_base (r : BusResponse) : (s.respond r).base = s.base := rfl
@[simp] theorem State.respond_armable (r : BusResponse) : (s.respond r).armable = s.armable := rfl

/-! ### rcReset -/

@[simp] theorem State.rcReset_widthLess1 : s.rcReset.widthLess1 = s.widthLess1 := rfl
@[simp] theorem State.rcReset_basePage : s.rcReset.basePage = s.basePage := rfl
@[simp] theorem State.rcReset_rcCount : s.rcReset.rcCount = 0 := rfl
@[simp] theorem State.rcReset_rcOvf : s.rcReset.rcOvf = 0 := rfl
@[simp] theorem State.rcReset_rcRun : s.rcReset.rcRun = s.rcRun := rfl
@[simp] theorem State.rcReset_pgEdges : s.rcReset.pgEdges = s.pgEdges := rfl
@[simp] theorem State.rcReset_pgTrigEn : s.rcReset.pgTrigEn = s.pgTrigEn := rfl
@[simp] theorem State.rcReset_pgToggle : s.rcReset.pgToggle = s.pgToggle := rfl
@[simp] theorem State.rcReset_pgComplete : s.rcReset.pgComplete = s.pgComplete := rfl
@[simp] theorem State.rcReset_snapRaw : s.rcReset.snapRaw = s.snapRaw := rfl
@[simp] theorem State.rcReset_snapOvf : s.rcReset.snapOvf = s.snapOvf := rfl
@[simp] theorem State.rcReset_meas : s.rcReset.meas = s.meas := rfl
@[simp] theorem State.rcReset_corr : s.rcReset.corr = s.corr := rfl
@[simp] theorem State.rcReset_prevCorr : s.rcReset.prevCorr = s.prevCorr := rfl
@[simp] theorem State.rcReset_iter : s.rcReset.iter = s.iter := rfl
@[simp] theorem State.rcReset_seqState : s.rcReset.seqState = s.seqState := rfl
@[simp] theorem State.rcReset_slf : s.rcReset.slf = s.slf := rfl
@[simp] theorem State.rcReset_stf : s.rcReset.stf = s.stf := rfl
@[simp] theorem State.rcReset_hif : s.rcReset.hif = s.hif := rfl
@[simp] theorem State.rcReset_ill : s.rcReset.ill = s.ill := rfl
@[simp] theorem State.rcReset_abortCause : s.rcReset.abortCause = s.abortCause := rfl
@[simp] theorem State.rcReset_ctrl : s.rcReset.ctrl = s.ctrl := rfl
@[simp] theorem State.rcReset_target : s.rcReset.target = s.target := rfl
@[simp] theorem State.rcReset_stepSize : s.rcReset.stepSize = s.stepSize := rfl
@[simp] theorem State.rcReset_iterCount : s.rcReset.iterCount = s.iterCount := rfl
@[simp] theorem State.rcReset_windowN : s.rcReset.windowN = s.windowN := rfl
@[simp] theorem State.rcReset_scale : s.rcReset.scale = s.scale := rfl
@[simp] theorem State.rcReset_calCh : s.rcReset.calCh = s.calCh := rfl
@[simp] theorem State.rcReset_parkCh : s.rcReset.parkCh = s.parkCh := rfl
@[simp] theorem State.rcReset_parkFreq : s.rcReset.parkFreq = s.parkFreq := rfl
@[simp] theorem State.rcReset_out : s.rcReset.out = s.out := rfl
@[simp] theorem State.rcReset_busResponse : s.rcReset.busResponse = s.busResponse := rfl
@[simp] theorem State.rcReset_pending : s.rcReset.pending = s.pending := rfl
@[simp] theorem State.rcReset_busy : s.rcReset.busy = s.busy := rfl
@[simp] theorem State.rcReset_locked : s.rcReset.locked = s.locked := rfl
@[simp] theorem State.rcReset_edgeMode : s.rcReset.edgeMode = s.edgeMode := rfl
@[simp] theorem State.rcReset_abortOnLoss : s.rcReset.abortOnLoss = s.abortOnLoss := rfl
@[simp] theorem State.rcReset_timeoutEn : s.rcReset.timeoutEn = s.timeoutEn := rfl
@[simp] theorem State.rcReset_logEn : s.rcReset.logEn = s.logEn := rfl
@[simp] theorem State.rcReset_width : s.rcReset.width = s.width := rfl
@[simp] theorem State.rcReset_modulus : s.rcReset.modulus = s.modulus := rfl
@[simp] theorem State.rcReset_base : s.rcReset.base = s.base := rfl
@[simp] theorem State.rcReset_armable : s.rcReset.armable = s.armable := rfl

/-! ### rcFreeze -/

@[simp] theorem State.rcFreeze_widthLess1 : s.rcFreeze.widthLess1 = s.widthLess1 := rfl
@[simp] theorem State.rcFreeze_basePage : s.rcFreeze.basePage = s.basePage := rfl
@[simp] theorem State.rcFreeze_rcCount : s.rcFreeze.rcCount = s.rcCount := rfl
@[simp] theorem State.rcFreeze_rcOvf : s.rcFreeze.rcOvf = s.rcOvf := rfl
@[simp] theorem State.rcFreeze_rcRun : s.rcFreeze.rcRun = false := rfl
@[simp] theorem State.rcFreeze_pgEdges : s.rcFreeze.pgEdges = s.pgEdges := rfl
@[simp] theorem State.rcFreeze_pgTrigEn : s.rcFreeze.pgTrigEn = s.pgTrigEn := rfl
@[simp] theorem State.rcFreeze_pgToggle : s.rcFreeze.pgToggle = s.pgToggle := rfl
@[simp] theorem State.rcFreeze_pgComplete : s.rcFreeze.pgComplete = s.pgComplete := rfl
@[simp] theorem State.rcFreeze_snapRaw : s.rcFreeze.snapRaw = s.snapRaw := rfl
@[simp] theorem State.rcFreeze_snapOvf : s.rcFreeze.snapOvf = s.snapOvf := rfl
@[simp] theorem State.rcFreeze_meas : s.rcFreeze.meas = s.meas := rfl
@[simp] theorem State.rcFreeze_corr : s.rcFreeze.corr = s.corr := rfl
@[simp] theorem State.rcFreeze_prevCorr : s.rcFreeze.prevCorr = s.prevCorr := rfl
@[simp] theorem State.rcFreeze_iter : s.rcFreeze.iter = s.iter := rfl
@[simp] theorem State.rcFreeze_seqState : s.rcFreeze.seqState = s.seqState := rfl
@[simp] theorem State.rcFreeze_slf : s.rcFreeze.slf = s.slf := rfl
@[simp] theorem State.rcFreeze_stf : s.rcFreeze.stf = s.stf := rfl
@[simp] theorem State.rcFreeze_hif : s.rcFreeze.hif = s.hif := rfl
@[simp] theorem State.rcFreeze_ill : s.rcFreeze.ill = s.ill := rfl
@[simp] theorem State.rcFreeze_abortCause : s.rcFreeze.abortCause = s.abortCause := rfl
@[simp] theorem State.rcFreeze_ctrl : s.rcFreeze.ctrl = s.ctrl := rfl
@[simp] theorem State.rcFreeze_target : s.rcFreeze.target = s.target := rfl
@[simp] theorem State.rcFreeze_stepSize : s.rcFreeze.stepSize = s.stepSize := rfl
@[simp] theorem State.rcFreeze_iterCount : s.rcFreeze.iterCount = s.iterCount := rfl
@[simp] theorem State.rcFreeze_windowN : s.rcFreeze.windowN = s.windowN := rfl
@[simp] theorem State.rcFreeze_scale : s.rcFreeze.scale = s.scale := rfl
@[simp] theorem State.rcFreeze_calCh : s.rcFreeze.calCh = s.calCh := rfl
@[simp] theorem State.rcFreeze_parkCh : s.rcFreeze.parkCh = s.parkCh := rfl
@[simp] theorem State.rcFreeze_parkFreq : s.rcFreeze.parkFreq = s.parkFreq := rfl
@[simp] theorem State.rcFreeze_out : s.rcFreeze.out = s.out := rfl
@[simp] theorem State.rcFreeze_busResponse : s.rcFreeze.busResponse = s.busResponse := rfl
@[simp] theorem State.rcFreeze_pending : s.rcFreeze.pending = s.pending := rfl
@[simp] theorem State.rcFreeze_busy : s.rcFreeze.busy = s.busy := rfl
@[simp] theorem State.rcFreeze_locked : s.rcFreeze.locked = s.locked := rfl
@[simp] theorem State.rcFreeze_edgeMode : s.rcFreeze.edgeMode = s.edgeMode := rfl
@[simp] theorem State.rcFreeze_abortOnLoss : s.rcFreeze.abortOnLoss = s.abortOnLoss := rfl
@[simp] theorem State.rcFreeze_timeoutEn : s.rcFreeze.timeoutEn = s.timeoutEn := rfl
@[simp] theorem State.rcFreeze_logEn : s.rcFreeze.logEn = s.logEn := rfl
@[simp] theorem State.rcFreeze_width : s.rcFreeze.width = s.width := rfl
@[simp] theorem State.rcFreeze_modulus : s.rcFreeze.modulus = s.modulus := rfl
@[simp] theorem State.rcFreeze_base : s.rcFreeze.base = s.base := rfl
@[simp] theorem State.rcFreeze_armable : s.rcFreeze.armable = s.armable := rfl

/-! ### armGate -/

@[simp] theorem State.armGate_widthLess1 : s.armGate.widthLess1 = s.widthLess1 := rfl
@[simp] theorem State.armGate_basePage : s.armGate.basePage = s.basePage := rfl
@[simp] theorem State.armGate_rcCount : s.armGate.rcCount = 0 := rfl
@[simp] theorem State.armGate_rcOvf : s.armGate.rcOvf = 0 := rfl
@[simp] theorem State.armGate_rcRun : s.armGate.rcRun = true := rfl
@[simp] theorem State.armGate_pgEdges : s.armGate.pgEdges = 0 := rfl
@[simp] theorem State.armGate_pgTrigEn : s.armGate.pgTrigEn = true := rfl
@[simp] theorem State.armGate_pgToggle : s.armGate.pgToggle = false := rfl
@[simp] theorem State.armGate_pgComplete : s.armGate.pgComplete = false := rfl
@[simp] theorem State.armGate_snapRaw : s.armGate.snapRaw = s.snapRaw := rfl
@[simp] theorem State.armGate_snapOvf : s.armGate.snapOvf = s.snapOvf := rfl
@[simp] theorem State.armGate_meas : s.armGate.meas = s.meas := rfl
@[simp] theorem State.armGate_corr : s.armGate.corr = s.corr := rfl
@[simp] theorem State.armGate_prevCorr : s.armGate.prevCorr = s.prevCorr := rfl
@[simp] theorem State.armGate_iter : s.armGate.iter = s.iter := rfl
@[simp] theorem State.armGate_seqState : s.armGate.seqState = s.seqState := rfl
@[simp] theorem State.armGate_slf : s.armGate.slf = s.slf := rfl
@[simp] theorem State.armGate_stf : s.armGate.stf = s.stf := rfl
@[simp] theorem State.armGate_hif : s.armGate.hif = s.hif := rfl
@[simp] theorem State.armGate_ill : s.armGate.ill = s.ill := rfl
@[simp] theorem State.armGate_abortCause : s.armGate.abortCause = s.abortCause := rfl
@[simp] theorem State.armGate_ctrl : s.armGate.ctrl = s.ctrl := rfl
@[simp] theorem State.armGate_target : s.armGate.target = s.target := rfl
@[simp] theorem State.armGate_stepSize : s.armGate.stepSize = s.stepSize := rfl
@[simp] theorem State.armGate_iterCount : s.armGate.iterCount = s.iterCount := rfl
@[simp] theorem State.armGate_windowN : s.armGate.windowN = s.windowN := rfl
@[simp] theorem State.armGate_scale : s.armGate.scale = s.scale := rfl
@[simp] theorem State.armGate_calCh : s.armGate.calCh = s.calCh := rfl
@[simp] theorem State.armGate_parkCh : s.armGate.parkCh = s.parkCh := rfl
@[simp] theorem State.armGate_parkFreq : s.armGate.parkFreq = s.parkFreq := rfl
@[simp] theorem State.armGate_out : s.armGate.out = s.out := rfl
@[simp] theorem State.armGate_busResponse : s.armGate.busResponse = s.busResponse := rfl
@[simp] theorem State.armGate_pending : s.armGate.pending = s.pending := rfl
@[simp] theorem State.armGate_busy : s.armGate.busy = s.busy := rfl
@[simp] theorem State.armGate_edgeMode : s.armGate.edgeMode = s.edgeMode := rfl
@[simp] theorem State.armGate_abortOnLoss : s.armGate.abortOnLoss = s.abortOnLoss := rfl
@[simp] theorem State.armGate_timeoutEn : s.armGate.timeoutEn = s.timeoutEn := rfl
@[simp] theorem State.armGate_logEn : s.armGate.logEn = s.logEn := rfl
@[simp] theorem State.armGate_width : s.armGate.width = s.width := rfl
@[simp] theorem State.armGate_modulus : s.armGate.modulus = s.modulus := rfl
@[simp] theorem State.armGate_base : s.armGate.base = s.base := rfl
@[simp] theorem State.armGate_armable : s.armGate.armable = s.armable := rfl

/-! ### snapshot -/

@[simp] theorem State.snapshot_widthLess1 : s.snapshot.widthLess1 = s.widthLess1 := rfl
@[simp] theorem State.snapshot_basePage : s.snapshot.basePage = s.basePage := rfl
@[simp] theorem State.snapshot_rcCount : s.snapshot.rcCount = s.rcCount := rfl
@[simp] theorem State.snapshot_rcOvf : s.snapshot.rcOvf = s.rcOvf := rfl
@[simp] theorem State.snapshot_rcRun : s.snapshot.rcRun = s.rcRun := rfl
@[simp] theorem State.snapshot_pgEdges : s.snapshot.pgEdges = s.pgEdges := rfl
@[simp] theorem State.snapshot_pgTrigEn : s.snapshot.pgTrigEn = s.pgTrigEn := rfl
@[simp] theorem State.snapshot_pgToggle : s.snapshot.pgToggle = s.pgToggle := rfl
@[simp] theorem State.snapshot_pgComplete : s.snapshot.pgComplete = s.pgComplete := rfl
@[simp] theorem State.snapshot_snapRaw : s.snapshot.snapRaw = s.rcCount := rfl
@[simp] theorem State.snapshot_snapOvf : s.snapshot.snapOvf = s.rcOvf := rfl
@[simp] theorem State.snapshot_meas : s.snapshot.meas = s.meas := rfl
@[simp] theorem State.snapshot_corr : s.snapshot.corr = s.corr := rfl
@[simp] theorem State.snapshot_prevCorr : s.snapshot.prevCorr = s.prevCorr := rfl
@[simp] theorem State.snapshot_iter : s.snapshot.iter = s.iter := rfl
@[simp] theorem State.snapshot_seqState : s.snapshot.seqState = s.seqState := rfl
@[simp] theorem State.snapshot_slf : s.snapshot.slf = s.slf := rfl
@[simp] theorem State.snapshot_stf : s.snapshot.stf = s.stf := rfl
@[simp] theorem State.snapshot_hif : s.snapshot.hif = s.hif := rfl
@[simp] theorem State.snapshot_ill : s.snapshot.ill = s.ill := rfl
@[simp] theorem State.snapshot_abortCause : s.snapshot.abortCause = s.abortCause := rfl
@[simp] theorem State.snapshot_ctrl : s.snapshot.ctrl = s.ctrl := rfl
@[simp] theorem State.snapshot_target : s.snapshot.target = s.target := rfl
@[simp] theorem State.snapshot_stepSize : s.snapshot.stepSize = s.stepSize := rfl
@[simp] theorem State.snapshot_iterCount : s.snapshot.iterCount = s.iterCount := rfl
@[simp] theorem State.snapshot_windowN : s.snapshot.windowN = s.windowN := rfl
@[simp] theorem State.snapshot_scale : s.snapshot.scale = s.scale := rfl
@[simp] theorem State.snapshot_calCh : s.snapshot.calCh = s.calCh := rfl
@[simp] theorem State.snapshot_parkCh : s.snapshot.parkCh = s.parkCh := rfl
@[simp] theorem State.snapshot_parkFreq : s.snapshot.parkFreq = s.parkFreq := rfl
@[simp] theorem State.snapshot_out : s.snapshot.out = s.out := rfl
@[simp] theorem State.snapshot_busResponse : s.snapshot.busResponse = s.busResponse := rfl
@[simp] theorem State.snapshot_pending : s.snapshot.pending = s.pending := rfl
@[simp] theorem State.snapshot_busy : s.snapshot.busy = s.busy := rfl
@[simp] theorem State.snapshot_locked : s.snapshot.locked = s.locked := rfl
@[simp] theorem State.snapshot_edgeMode : s.snapshot.edgeMode = s.edgeMode := rfl
@[simp] theorem State.snapshot_abortOnLoss : s.snapshot.abortOnLoss = s.abortOnLoss := rfl
@[simp] theorem State.snapshot_timeoutEn : s.snapshot.timeoutEn = s.timeoutEn := rfl
@[simp] theorem State.snapshot_logEn : s.snapshot.logEn = s.logEn := rfl
@[simp] theorem State.snapshot_width : s.snapshot.width = s.width := rfl
@[simp] theorem State.snapshot_modulus : s.snapshot.modulus = s.modulus := rfl
@[simp] theorem State.snapshot_base : s.snapshot.base = s.base := rfl
@[simp] theorem State.snapshot_armable : s.snapshot.armable = s.armable := rfl

/-! ### measure -/

@[simp] theorem State.measure_widthLess1 : s.measure.widthLess1 = s.widthLess1 := rfl
@[simp] theorem State.measure_basePage : s.measure.basePage = s.basePage := rfl
@[simp] theorem State.measure_rcCount : s.measure.rcCount = s.rcCount := rfl
@[simp] theorem State.measure_rcOvf : s.measure.rcOvf = s.rcOvf := rfl
@[simp] theorem State.measure_rcRun : s.measure.rcRun = s.rcRun := rfl
@[simp] theorem State.measure_pgEdges : s.measure.pgEdges = s.pgEdges := rfl
@[simp] theorem State.measure_pgTrigEn : s.measure.pgTrigEn = s.pgTrigEn := rfl
@[simp] theorem State.measure_pgToggle : s.measure.pgToggle = s.pgToggle := rfl
@[simp] theorem State.measure_pgComplete : s.measure.pgComplete = s.pgComplete := rfl
@[simp] theorem State.measure_snapRaw : s.measure.snapRaw = s.snapRaw := rfl
@[simp] theorem State.measure_snapOvf : s.measure.snapOvf = s.snapOvf := rfl
@[simp] theorem State.measure_meas : s.measure.meas = measFreq s.modulus s.snapRaw s.snapOvf s.scale := rfl
@[simp] theorem State.measure_corr : s.measure.corr = s.corr := rfl
@[simp] theorem State.measure_prevCorr : s.measure.prevCorr = s.prevCorr := rfl
@[simp] theorem State.measure_iter : s.measure.iter = s.iter := rfl
@[simp] theorem State.measure_seqState : s.measure.seqState = s.seqState := rfl
@[simp] theorem State.measure_slf : s.measure.slf = s.slf := rfl
@[simp] theorem State.measure_stf : s.measure.stf = s.stf := rfl
@[simp] theorem State.measure_hif : s.measure.hif = s.hif := rfl
@[simp] theorem State.measure_ill : s.measure.ill = s.ill := rfl
@[simp] theorem State.measure_abortCause : s.measure.abortCause = s.abortCause := rfl
@[simp] theorem State.measure_ctrl : s.measure.ctrl = s.ctrl := rfl
@[simp] theorem State.measure_target : s.measure.target = s.target := rfl
@[simp] theorem State.measure_stepSize : s.measure.stepSize = s.stepSize := rfl
@[simp] theorem State.measure_iterCount : s.measure.iterCount = s.iterCount := rfl
@[simp] theorem State.measure_windowN : s.measure.windowN = s.windowN := rfl
@[simp] theorem State.measure_scale : s.measure.scale = s.scale := rfl
@[simp] theorem State.measure_calCh : s.measure.calCh = s.calCh := rfl
@[simp] theorem State.measure_parkCh : s.measure.parkCh = s.parkCh := rfl
@[simp] theorem State.measure_parkFreq : s.measure.parkFreq = s.parkFreq := rfl
@[simp] theorem State.measure_out : s.measure.out = s.out := rfl
@[simp] theorem State.measure_busResponse : s.measure.busResponse = s.busResponse := rfl
@[simp] theorem State.measure_pending : s.measure.pending = s.pending := rfl
@[simp] theorem State.measure_busy : s.measure.busy = s.busy := rfl
@[simp] theorem State.measure_locked : s.measure.locked = s.locked := rfl
@[simp] theorem State.measure_edgeMode : s.measure.edgeMode = s.edgeMode := rfl
@[simp] theorem State.measure_abortOnLoss : s.measure.abortOnLoss = s.abortOnLoss := rfl
@[simp] theorem State.measure_timeoutEn : s.measure.timeoutEn = s.timeoutEn := rfl
@[simp] theorem State.measure_logEn : s.measure.logEn = s.logEn := rfl
@[simp] theorem State.measure_width : s.measure.width = s.width := rfl
@[simp] theorem State.measure_modulus : s.measure.modulus = s.modulus := rfl
@[simp] theorem State.measure_base : s.measure.base = s.base := rfl
@[simp] theorem State.measure_armable : s.measure.armable = s.armable := rfl

/-! ### adjust -/

@[simp] theorem State.adjust_widthLess1 : s.adjust.widthLess1 = s.widthLess1 := rfl
@[simp] theorem State.adjust_basePage : s.adjust.basePage = s.basePage := rfl
@[simp] theorem State.adjust_rcCount : s.adjust.rcCount = s.rcCount := rfl
@[simp] theorem State.adjust_rcOvf : s.adjust.rcOvf = s.rcOvf := rfl
@[simp] theorem State.adjust_rcRun : s.adjust.rcRun = s.rcRun := rfl
@[simp] theorem State.adjust_pgEdges : s.adjust.pgEdges = s.pgEdges := rfl
@[simp] theorem State.adjust_pgTrigEn : s.adjust.pgTrigEn = s.pgTrigEn := rfl
@[simp] theorem State.adjust_pgToggle : s.adjust.pgToggle = s.pgToggle := rfl
@[simp] theorem State.adjust_pgComplete : s.adjust.pgComplete = s.pgComplete := rfl
@[simp] theorem State.adjust_snapRaw : s.adjust.snapRaw = s.snapRaw := rfl
@[simp] theorem State.adjust_snapOvf : s.adjust.snapOvf = s.snapOvf := rfl
@[simp] theorem State.adjust_meas : s.adjust.meas = s.meas := rfl
@[simp] theorem State.adjust_corr : s.adjust.corr = huff s.corr s.meas s.target s.stepSize := rfl
@[simp] theorem State.adjust_prevCorr : s.adjust.prevCorr = s.corr := rfl
@[simp] theorem State.adjust_iter : s.adjust.iter = s.iter := rfl
@[simp] theorem State.adjust_seqState : s.adjust.seqState = s.seqState := rfl
@[simp] theorem State.adjust_slf : s.adjust.slf = s.slf := rfl
@[simp] theorem State.adjust_stf : s.adjust.stf = s.stf := rfl
@[simp] theorem State.adjust_hif : s.adjust.hif = s.hif := rfl
@[simp] theorem State.adjust_ill : s.adjust.ill = s.ill := rfl
@[simp] theorem State.adjust_abortCause : s.adjust.abortCause = s.abortCause := rfl
@[simp] theorem State.adjust_ctrl : s.adjust.ctrl = s.ctrl := rfl
@[simp] theorem State.adjust_target : s.adjust.target = s.target := rfl
@[simp] theorem State.adjust_stepSize : s.adjust.stepSize = s.stepSize := rfl
@[simp] theorem State.adjust_iterCount : s.adjust.iterCount = s.iterCount := rfl
@[simp] theorem State.adjust_windowN : s.adjust.windowN = s.windowN := rfl
@[simp] theorem State.adjust_scale : s.adjust.scale = s.scale := rfl
@[simp] theorem State.adjust_calCh : s.adjust.calCh = s.calCh := rfl
@[simp] theorem State.adjust_parkCh : s.adjust.parkCh = s.parkCh := rfl
@[simp] theorem State.adjust_parkFreq : s.adjust.parkFreq = s.parkFreq := rfl
@[simp] theorem State.adjust_out : s.adjust.out = s.out := rfl
@[simp] theorem State.adjust_busResponse : s.adjust.busResponse = s.busResponse := rfl
@[simp] theorem State.adjust_pending : s.adjust.pending = s.pending := rfl
@[simp] theorem State.adjust_busy : s.adjust.busy = s.busy := rfl
@[simp] theorem State.adjust_locked : s.adjust.locked = s.locked := rfl
@[simp] theorem State.adjust_edgeMode : s.adjust.edgeMode = s.edgeMode := rfl
@[simp] theorem State.adjust_abortOnLoss : s.adjust.abortOnLoss = s.abortOnLoss := rfl
@[simp] theorem State.adjust_timeoutEn : s.adjust.timeoutEn = s.timeoutEn := rfl
@[simp] theorem State.adjust_logEn : s.adjust.logEn = s.logEn := rfl
@[simp] theorem State.adjust_width : s.adjust.width = s.width := rfl
@[simp] theorem State.adjust_modulus : s.adjust.modulus = s.modulus := rfl
@[simp] theorem State.adjust_base : s.adjust.base = s.base := rfl
@[simp] theorem State.adjust_armable : s.adjust.armable = s.armable := rfl

end Sys2Proof.Machine
end

