-- ==== Sys2Proof/Laws/Ops.lean ====
section
/-! SUPPORT. What each shared operation does, said once: the lemmas that proofs cite instead of unfolding the operation. -/

namespace Sys2Proof.Machine

/-! ### STATE and BUSY -/

/-- STATE determines the sequencer state and back (R31). -/
@[simp] theorem SeqState.ofBits_bits (st : SeqState) : SeqState.ofBits st.bits = some st := by cases st <;> rfl

/-- The states of R31 are the encodings 0..8. -/
theorem SeqState.bits_lt (st : SeqState) : st.bits.toNat < 9 := by cases st <;> decide

/-- A 4-bit STATE is one of the nine states or an unused encoding (R31). -/
theorem SeqState.ofBits_cases (b : BitVec 4) :
    (∃ st : SeqState, b = st.bits ∧ SeqState.ofBits b = some st) ∨ (9 ≤ b.toNat ∧ SeqState.ofBits b = none) := by
  have key : ∀ b : BitVec 4,
      (SeqState.ofBits b).elim (decide (9 ≤ b.toNat)) (fun st => decide (b = st.bits)) = true := by decide
  have hb := key b
  cases h : SeqState.ofBits b with
  | none => rw [h] at hb; exact .inr ⟨of_decide_eq_true hb, rfl⟩
  | some st => rw [h] at hb; exact .inl ⟨st, of_decide_eq_true hb, rfl⟩

/-- BUSY in terms of STATE's value (R32). -/
theorem State.busy_iff (s : State) : s.busy = true ↔ 1 ≤ s.seqState.toNat ∧ s.seqState.toNat ≤ 7 := by
  simp [State.busy]

/-- Not BUSY in terms of STATE's value (R32). -/
theorem State.busy_false_iff (s : State) : s.busy = false ↔ s.seqState.toNat = 0 ∨ 8 ≤ s.seqState.toNat := by
  rw [← Bool.not_eq_true, State.busy_iff]; omega

/-- The modulus is a power of two between 2 and 2^16 (R7). -/
theorem State.modulus_bounds (s : State) : 2 ≤ s.modulus ∧ s.modulus ≤ 2 ^ 16 := by
  have h := s.widthLess1.isLt
  refine ⟨?_, Nat.pow_le_pow_right (by decide) (by unfold State.width; omega)⟩
  calc 2 = 2 ^ 1 := rfl
    _ ≤ 2 ^ s.width := Nat.pow_le_pow_right (by decide) (by unfold State.width; omega)

/-! ### Counter and gate -/

/-- A counted edge moves the pair (RC_OVF, RC_COUNT) by one modulo M * 2^32 (R71, R75). -/
theorem State.rcCountEdge_tally (s : State) (h : s.rcCount.toNat < s.modulus) :
    s.rcCountEdge.rcOvf.toNat * s.modulus + s.rcCountEdge.rcCount.toNat =
      (s.rcOvf.toNat * s.modulus + s.rcCount.toNat + 1) % (s.modulus * 2 ^ 32) ∧
      s.rcCountEdge.rcCount.toNat < s.modulus := by
  obtain ⟨h2, h16⟩ := s.modulus_bounds
  have hovf := s.rcOvf.isLt
  have hone : (1 : BitVec 32).toNat = 1 := rfl
  have hone' : (1 : BitVec 16).toNat = 1 := rfl
  unfold State.rcCountEdge
  split
  · rename_i hw
    dsimp only
    refine ⟨?_, by simp; omega⟩
    simp only [BitVec.toNat_add, hone]
    by_cases hmax : s.rcOvf.toNat + 1 = 2 ^ 32
    · have : s.rcOvf.toNat * s.modulus + s.rcCount.toNat + 1 = s.modulus * 2 ^ 32 := by
        rw [hw, ← hmax, Nat.mul_add, Nat.mul_comm]; omega
      rw [this, hmax]; simp
    · have h1 : (s.rcOvf.toNat + 1) % 2 ^ 32 = s.rcOvf.toNat + 1 := by omega
      have h3 : (s.rcOvf.toNat + 1) * s.modulus = s.rcOvf.toNat * s.modulus + s.rcCount.toNat + 1 := by
        rw [Nat.add_mul, hw]; omega
      have h4 : (s.rcOvf.toNat + 1) * s.modulus < s.modulus * 2 ^ 32 := by
        rw [Nat.mul_comm]; exact Nat.mul_lt_mul_of_pos_left (by omega) (by omega)
      rw [h1, ← h3, Nat.mod_eq_of_lt h4]; simp
  · rename_i hw
    dsimp only
    have h1 : (s.rcCount + 1).toNat = s.rcCount.toNat + 1 := by
      simp only [BitVec.toNat_add, hone']; omega
    have h3 : (s.rcOvf.toNat + 1) * s.modulus ≤ 2 ^ 32 * s.modulus := Nat.mul_le_mul_right _ (by omega)
    rw [Nat.add_mul] at h3
    refine ⟨?_, by rw [h1]; omega⟩
    rw [h1, Nat.mod_eq_of_lt]
    · omega
    · rw [Nat.mul_comm s.modulus]; omega

/-- `GateEdge()` as one update (R82). -/
theorem State.gateEdge_eq (s : State) : s.gateEdge = Safety.gateEdgeResult s := by
  unfold State.gateEdge State.gateCount State.gateClose State.rcReset State.rcFreeze Safety.gateEdgeResult
  by_cases h1 : s.pgEdges + 1 = 1 <;> by_cases hn : s.pgEdges + 1 = s.windowN
  · simp only [if_pos h1, if_pos hn]
  · simp only [if_pos h1, if_neg hn]
  · simp only [if_neg h1, if_pos hn]
  · simp only [if_neg h1, if_neg hn]

/-- A PPS event while the trigger is disabled is lost (R85). -/
@[simp] theorem State.ppsEvent_disabled (s : State) (ev : PpsEvent) (h : s.pgTrigEn = false) : s.ppsEvent ev = s := by
  simp [State.ppsEvent, h]

/-- What a PPS event can do (R81, R83, R84): nothing, clear the toggle flag, or be a qualifying edge. -/
theorem State.ppsEvent_cases (s : State) (ev : PpsEvent) :
    s.ppsEvent ev = s ∨
    (s.pgTrigEn = true ∧ s.edgeMode = true ∧ s.pgToggle = true ∧ s.ppsEvent ev = { s with pgToggle := false }) ∨
    (s.pgTrigEn = true ∧ s.edgeMode = false ∧ ev = .rise ∧ s.ppsEvent ev = Safety.gateEdgeResult s) ∨
    (s.pgTrigEn = true ∧ s.edgeMode = true ∧ s.pgToggle = false ∧
      s.ppsEvent ev = Safety.gateEdgeResult { s with pgToggle := true }) := by
  unfold State.ppsEvent
  cases ht : s.pgTrigEn <;> cases hm : s.edgeMode <;> cases hp : s.pgToggle <;> cases ev <;>
    simp [State.gateEdge_eq]

/-! ### Faults -/

/-- Taking an aborting fault, as one update (R125). -/
theorem State.abortCycle_eq (s : State) (f : FaultKind) :
    s.abortCycle f = { s with
      slf := s.slf || f == .signalLoss, stf := s.stf || f == .samplingTimeout, hif := s.hif || f == .hardwareInit
      abortCause := f.code, seqState := 6, out := s.out ++ [.logFault f.code s.iter] } := by
  cases f <;>
    simp [State.abortCycle, State.reportFault, State.setSticky, State.emit, State.goto, SeqState.bits, FaultKind.code]

/-! ### Reset -/

/-- RESET gives the state right after reset, but for the parameters, the trace and the environment's side (R133). -/
theorem State.resetBlock_eq (s : State) :
    s.resetBlock = { State.reset with widthLess1 := s.widthLess1, basePage := s.basePage, out := s.out,
                                      busResponse := s.busResponse, pending := s.pending } := rfl

/-! ### Arithmetic -/

/-- Huff by comparison of numbers (R112). -/
theorem huff_eq (corr : Word) (meas : BitVec 64) (target : Word) (step : BitVec 16) :
    huff corr meas target step = Safety.stepped corr meas.toNat target.toNat step := by
  have h : (target.setWidth 64).toNat = target.toNat := by
    simp only [BitVec.toNat_setWidth]; have := target.isLt; omega
  simp only [huff, Safety.stepped, BitVec.lt_def, h]

/-- What the ARMED step can do (R95). -/
theorem armedStep_cases (s : State) :
    (2 ≤ s.windowN.toNat ∧ armedStep s = s.armGate.goto .waitingForWindow) ∨
    (s.windowN.toNat < 2 ∧ armedStep s = { s with
      hif := true, abortCause := 3, seqState := 6, out := s.out ++ [.logFault 3 s.iter] }) := by
  unfold armedStep
  by_cases h : s.armable = true
  · rw [if_pos h]; exact .inl ⟨by simpa [State.armable] using h, rfl⟩
  · rw [if_neg h, State.abortCycle_eq]
    exact .inr ⟨by simpa [State.armable] using h, by simp [FaultKind.code]⟩

/-- What the MEASURED step can do (R97). -/
theorem measuredStep_cases (s : State) :
    (s.iter = 0 ∧ measuredStep s = { s with iter := 1, seqState := 1 }) ∨
    (s.iter ≠ 0 ∧ s.meas = 0 ∧ s.abortOnLoss = true ∧ measuredStep s = { s with
      slf := true, abortCause := 1, seqState := 6, out := s.out ++ [.logFault 1 s.iter] }) ∨
    (s.iter ≠ 0 ∧ s.meas = 0 ∧ s.abortOnLoss = false ∧ measuredStep s = { s with
      slf := true, iter := s.iter + 1, seqState := 1, out := s.out ++ [.logFault 1 s.iter] }) ∨
    (s.iter ≠ 0 ∧ s.meas ≠ 0 ∧ measuredStep s = { s with seqState := 5 }) := by
  unfold measuredStep
  by_cases h1 : s.iter = 0
  · rw [if_pos h1]; exact .inl ⟨h1, rfl⟩
  rw [if_neg h1]
  by_cases h2 : s.meas = 0
  · rw [if_pos h2]
    by_cases h3 : s.abortOnLoss = true
    · rw [if_pos h3, State.abortCycle_eq]
      exact .inr (.inl ⟨h1, h2, h3, by simp [FaultKind.code]⟩)
    · rw [if_neg h3]
      exact .inr (.inr (.inl ⟨h1, h2, by simpa using h3, rfl⟩))
  · rw [if_neg h2]; exact .inr (.inr (.inr ⟨h1, h2, rfl⟩))

/-- What TIMEOUT can do (R101). -/
theorem timeoutStrobe_cases (s : State) :
    timeoutStrobe s = s ∨
    (s.timeoutEn = true ∧ s.seqState = 3 ∧ s.pgComplete = false ∧ timeoutStrobe s = { s with
      rcRun := false, pgTrigEn := false, stf := true, abortCause := 2, seqState := 6
      out := s.out ++ [.logFault 2 s.iter] }) := by
  unfold timeoutStrobe
  split
  · rename_i h
    simp only [Bool.and_eq_true, Bool.not_eq_true', beq_iff_eq, SeqState.bits] at h
    rw [State.abortCycle_eq]
    exact .inr ⟨h.1.1, h.1.2, h.2, by simp [FaultKind.code, State.rcFreeze]⟩
  · exact .inl rfl

/-- The ADJUSTING step, as one update (R98). -/
theorem adjustStep_eq (s : State) :
    adjustStep s = { s with
      prevCorr := s.corr, corr := huff s.corr s.meas s.target s.stepSize, iter := s.iter + 1, seqState := 1
      out := s.out ++ ([.setCorrection (huff s.corr s.meas s.target s.stepSize), .setFrequency s.calCh s.target] ++
        if s.logEn then [.logIter s.iter s.meas s.corr (huff s.corr s.meas s.target s.stepSize)] else []) } := by
  unfold adjustStep
  cases s.logEn <;> simp [State.nextIteration, State.goto, State.emit, State.adjust, SeqState.bits]

/-- The WAITING_FOR_WINDOW step, as one update (R96). -/
theorem waitStep_eq (s : State) :
    waitStep s = { s with
      snapRaw := s.rcCount, snapOvf := s.rcOvf, seqState := 4
      meas := measFreq s.modulus s.rcCount s.rcOvf s.scale } := rfl

/-- The DONE step, as one update (R100). -/
theorem doneStep_eq (s : State) :
    doneStep s = { s with seqState := 8, out := s.out ++ Safety.cleanupRecords s } := by
  simp [doneStep, State.emit, State.goto, SeqState.bits, Safety.cleanupRecords]

/-! ### The bus -/

/-- The address decoding of an offset (R43 to R46). -/
theorem State.access_offset (s : State) (o n : Nat) :
    s.access (s.base + o) n =
      if 128 ≤ o then .outside else if n ≠ 4 ∨ o % 4 ≠ 0 then .error else .reg (regAt o) := by
  simp [State.access, Config.windowBytes, Config.accessBytes]

/-- BUS_RD by offset (R48). -/
theorem execBusRd_eq (size ofs : Byte) (s : State) :
    execBusRd size ofs s =
      if 128 ≤ ofs.toNat then .refused .accessOutsideWindow
      else if size ≠ 4 ∨ ofs.toNat % 4 ≠ 0 then .next (s.respond .busError)
      else .next (s.respond (.readData (s.readReg (regAt ofs.toNat)))) := by
  have h : size.toNat ≠ 4 ↔ size ≠ 4 := by rw [Ne, Ne, BitVec.toNat_eq]; rfl
  simp only [execBusRd, memRead, State.access_offset, h]
  split <;> rename_i hh <;> split at hh <;> try split at hh
  all_goals simp_all

/-- BUS_WR by offset (R49). -/
theorem execBusWr_eq (size ofs : Byte) (data : Word) (s : State) :
    execBusWr size ofs data s =
      if 128 ≤ ofs.toNat then .refused .accessOutsideWindow
      else if size ≠ 4 ∨ ofs.toNat % 4 ≠ 0 then .next (s.respond .busError)
      else .next ((writeReg (regAt ofs.toNat) data s).respond .writeOk) := by
  have h : size.toNat ≠ 4 ↔ size ≠ 4 := by rw [Ne, Ne, BitVec.toNat_eq]; rfl
  simp only [execBusWr, memWrite, State.access_offset, h]
  split <;> rename_i hh <;> split at hh <;> try split at hh
  all_goals simp_all

/-! ### Steps -/

/-- What one step of the machine can do (R13, R14). -/
theorem step_cases (s t : State) (h : step s = .next t) :
    (∃ r rest i, s.pending = r :: rest ∧ decode r = .ok i ∧ exec i { s with pending := rest } = .next t) ∨
    (s.pending = [] ∧ s.seqEnabled = true ∧ exec .seq s = .next t) := by
  unfold step at h
  split at h
  · rename_i r rest hp
    split at h
    · rename_i i hd; exact .inl ⟨r, rest, i, hp, hd, h⟩
    · cases h
  · rename_i hp
    split at h
    · rename_i he; exact .inr ⟨hp, he, h⟩
    · cases h

end Sys2Proof.Machine
end

