-- ==== Sys2Proof/Laws/Exec.lean ====
section
/-! SUPPORT. What an operation can do, said once over all of Instr: the inversion lemma that whole-machine proofs cite. -/

namespace Sys2Proof.Machine

open Sys2Proof.Safety

/-- What a host access can do to the block, before the bus responds (R48, R49, R64). -/
inductive HostEffect (i : Instr) (s : State) : State → Prop where
  /-- A read, a bus error, NOP, or a write to a read-only or reserved offset. -/
  | nothing : HostEffect i s s
  /-- An illegal operation (R118). -/
  | illegal : HostEffect i s s.setIll
  /-- RUN (R92). -/
  | run : isCommand i .cmdRun 1 → s.busy = false → HostEffect i s
      ({ s with iter := 0, prevCorr := s.corr, abortCause := 0, seqState := 1, out := s.out ++ startRecords s })
  /-- ARM (R80). -/
  | arm : isCommand i .cmdArm 2 → s.busy = false → 2 ≤ s.windowN.toNat → HostEffect i s s.armGate
  /-- ARM with WINDOW_N < 2 (R80). -/
  | armFails : s.busy = false → HostEffect i s { s with hif := true }
  /-- SNAPSHOT (R93). -/
  | snapshot : isCommand i .cmdSnapshot 3 → s.busy = false → s.pgTrigEn = false → HostEffect i s s.snapshot
  /-- MEASURE (R111). -/
  | measure : isCommand i .cmdMeasure 4 → s.busy = false → HostEffect i s s.measure
  /-- ADJUST (R113). -/
  | adjust : isCommand i .cmdAdjust 5 → s.busy = false → s.meas ≠ 0 → HostEffect i s s.adjust
  /-- ADJUST with MEAS = 0 (R113). -/
  | adjustLoss : s.busy = false → HostEffect i s { s with slf := true }
  /-- A write to FAULT (R49). -/
  | clear (v : Word) : i = .busWr 4 0x0C v → HostEffect i s (clearSticky v s)
  /-- A configuration write (R50, R51). -/
  | config (r : Reg) (v : Word) : r.isConfig = true → s.locked = false → HostEffect i s (s.writeConfig r v)
  /-- A write to CORR (R52). -/
  | corr (v : Word) : i = .busWr 4 0x2C v → s.busy = false → HostEffect i s { s with corr := v }

/-- What an operation that has a next state can do. -/
inductive ExecEffect (i : Instr) (s : State) : State → Prop where
  /-- A host access ends with a response (R48, R49). -/
  | host {u : State} (r : BusResponse) : isHostAccess i = true → HostEffect i s u → ExecEffect i s (u.respond r)
  /-- REF_TICK (R71). -/
  | tick : i = .refTick → ExecEffect i s (refTick s)
  /-- PPS_RISE (R83). -/
  | rise : i = .ppsRise → ExecEffect i s (s.ppsEvent .rise)
  /-- PPS_FALL (R84). -/
  | fall : i = .ppsFall → ExecEffect i s (s.ppsEvent .fall)
  /-- TIMEOUT (R101). -/
  | timeout : i = .timeout → ExecEffect i s (timeoutStrobe s)
  /-- RESET (R133). -/
  | reset : i = .reset → ExecEffect i s s.resetBlock
  /-- SEQ in IDLE (R94). -/
  | idle : i = .seq ∨ i = .seqIdle → s.seqState = 1 → ExecEffect i s (idleStep s)
  /-- SEQ in ARMED (R95). -/
  | armed : i = .seq ∨ i = .seqArmed → s.seqState = 2 → ExecEffect i s (armedStep s)
  /-- SEQ in WAITING_FOR_WINDOW (R96). -/
  | waiting : i = .seq ∨ i = .seqWaiting → s.seqState = 3 → s.pgComplete = true → ExecEffect i s (waitStep s)
  /-- SEQ in MEASURED (R97). -/
  | measured : i = .seq ∨ i = .seqMeasured → s.seqState = 4 → ExecEffect i s (measuredStep s)
  /-- SEQ in ADJUSTING (R98). -/
  | adjusting : i = .seq ∨ i = .seqAdjusting → s.seqState = 5 → ExecEffect i s (adjustStep s)
  /-- SEQ in FAULTED (R99). -/
  | faulted : i = .seq ∨ i = .seqFaulted → s.seqState = 6 → ExecEffect i s (faultedStep s)
  /-- SEQ in DONE (R100). -/
  | done : i = .seq ∨ i = .seqDone → s.seqState = 7 → ExecEffect i s (doneStep s)

/-! ### The commands -/

/-- What RUN can do (R92). -/
theorem runCmd_effect (i : Instr) (s : State) (hi : isCommand i .cmdRun 1) : HostEffect i s (runCmd s) := by
  unfold runCmd
  cases hb : s.busy
  · simpa [State.emit, State.goto, startRecords, SeqState.bits] using HostEffect.run hi hb
  · exact .illegal

/-- What ARM can do (R80). -/
theorem armCmd_effect (i : Instr) (s : State) (hi : isCommand i .cmdArm 2) : HostEffect i s (armCmd s) := by
  unfold armCmd
  cases hb : s.busy
  · by_cases hw : s.armable = true
    · rw [if_neg (by decide), if_pos hw]
      exact .arm hi hb (by simpa [State.armable] using hw)
    · rw [if_neg (by decide), if_neg hw]; exact .armFails hb
  · exact .illegal

/-- What SNAPSHOT can do (R93). -/
theorem snapshotCmd_effect (i : Instr) (s : State) (hi : isCommand i .cmdSnapshot 3) :
    HostEffect i s (snapshotCmd s) := by
  unfold snapshotCmd
  split
  · exact .illegal
  · rename_i h
    rw [Bool.or_eq_true, not_or, Bool.not_eq_true, Bool.not_eq_true] at h
    exact .snapshot hi h.1 h.2

/-- What MEASURE can do (R111). -/
theorem measureCmd_effect (i : Instr) (s : State) (hi : isCommand i .cmdMeasure 4) :
    HostEffect i s (measureCmd s) := by
  unfold measureCmd
  cases hb : s.busy
  · exact .measure hi hb
  · exact .illegal

/-- What ADJUST can do (R113). -/
theorem adjustCmd_effect (i : Instr) (s : State) (hi : isCommand i .cmdAdjust 5) : HostEffect i s (adjustCmd s) := by
  unfold adjustCmd
  cases hb : s.busy
  · by_cases hm : s.meas = 0
    · rw [if_neg (by decide), if_pos hm]; exact .adjustLoss hb
    · rw [if_neg (by decide), if_neg hm]; exact .adjust hi hb hm
  · exact .illegal

/-- A command word whose RSVD is 0 is its OPCODE (R61). -/
theorem cmd_of_fields {v : CmdWord} {k : Byte} (h0 : ¬cmdRsvd v ≠ 0) (hk : cmdOpcode v = k) :
    v = k.setWidth 32 := by
  have hr := congrArg BitVec.toNat (not_not.mp h0)
  have ho := congrArg BitVec.toNat hk
  have hv := v.isLt
  simp only [cmdRsvd, cmdOpcode, BitVec.extractLsb'_toNat, Nat.shiftRight_eq_div_pow] at hr ho
  have hz : (0 : BitVec 24).toNat = 0 := rfl
  apply BitVec.eq_of_toNat_eq
  simp only [BitVec.toNat_setWidth]
  omega

/-- What a command word can do (R64). -/
theorem execCommand_effect (v : CmdWord) (s : State) : HostEffect (.busWr 4 4 v) s (execCommand v s) := by
  unfold execCommand
  split
  · exact .illegal
  rename_i h0
  split
  · exact .nothing
  split
  · rename_i hk; exact runCmd_effect _ _ (.inr (by rw [cmd_of_fields h0 hk]; rfl))
  split
  · rename_i hk; exact armCmd_effect _ _ (.inr (by rw [cmd_of_fields h0 hk]; rfl))
  split
  · rename_i hk; exact snapshotCmd_effect _ _ (.inr (by rw [cmd_of_fields h0 hk]; rfl))
  split
  · rename_i hk; exact measureCmd_effect _ _ (.inr (by rw [cmd_of_fields h0 hk]; rfl))
  split
  · rename_i hk; exact adjustCmd_effect _ _ (.inr (by rw [cmd_of_fields h0 hk]; rfl))
  · exact .illegal

/-! ### The bus -/

/-- The offset of the registers whose writes are told apart by the instruction (R34). -/
theorem regAt_inv (ofs : Byte) :
    (regAt ofs.toNat = .cmd → ofs = 4) ∧ (regAt ofs.toNat = .fault → ofs = 0x0C) ∧
      (regAt ofs.toNat = .corr → ofs = 0x2C) := by
  revert ofs; decide +kernel

/-- What a write to a register can do (R49). -/
theorem writeReg_effect (ofs : Byte) (v : Word) (s : State) :
    HostEffect (.busWr 4 ofs v) s (writeReg (regAt ofs.toNat) v s) := by
  obtain ⟨hc, hf, hr⟩ := regAt_inv ofs
  cases h : regAt ofs.toNat with
  | cmd => rw [hc h]; exact execCommand_effect v s
  | fault => exact .clear v (by rw [hf h])
  | corr =>
    unfold writeReg
    cases hb : s.busy
    · exact .corr v (by rw [hr h]) hb
    · exact .illegal
  | status | prevCorr | iter | snapRaw | snapOvf | measLo | measHi | reserved => exact .nothing
  | ctrl | target | step | iterCount | windowN | scale | chan | parkFreq =>
    unfold writeReg
    cases hl : s.locked
    · rw [if_neg (by decide)]; refine .config _ v ?_ hl; rfl
    · exact .illegal

/-! ### All operations -/

/-- What a sequencer step of a named state can do (R66). -/
theorem seqStepIn_next {s t u : State} {st : SeqState} (h : s.seqStepIn st u = .next t) :
    s.seqState = st.bits ∧ u = t := by
  unfold State.seqStepIn at h
  split at h
  · rename_i hs; cases h; exact ⟨hs, rfl⟩
  · cases h

/-- What SEQ can do (R66). -/
theorem execSeq_effect {s t : State} (h : execSeq s = .next t) : ExecEffect .seq s t := by
  unfold execSeq at h
  rcases SeqState.ofBits_cases s.seqState with ⟨st, hb, ho⟩ | ⟨_, ho⟩
  · rw [ho] at h
    cases st with
    | idle => cases h; exact .idle (.inl rfl) hb
    | armed => cases h; exact .armed (.inl rfl) hb
    | waitingForWindow =>
      dsimp only at h
      split at h
      · rename_i hc; cases h; exact .waiting (.inl rfl) hb hc
      · cases h
    | measured => cases h; exact .measured (.inl rfl) hb
    | adjusting => cases h; exact .adjusting (.inl rfl) hb
    | faulted => cases h; exact .faulted (.inl rfl) hb
    | done => cases h; exact .done (.inl rfl) hb
    | stopped | cleanup => cases h
  · rw [ho] at h; cases h

/-- What an operation can do, if it has a next state. -/
theorem exec_effect {i : Instr} {s t : State} (h : exec i s = .next t) : ExecEffect i s t := by
  cases i with
  | cmdNop => cases h; exact .host _ rfl .nothing
  | cmdRun => cases h; exact .host _ rfl (runCmd_effect _ _ (.inl rfl))
  | cmdArm => cases h; exact .host _ rfl (armCmd_effect _ _ (.inl rfl))
  | cmdSnapshot => cases h; exact .host _ rfl (snapshotCmd_effect _ _ (.inl rfl))
  | cmdMeasure => cases h; exact .host _ rfl (measureCmd_effect _ _ (.inl rfl))
  | cmdAdjust => cases h; exact .host _ rfl (adjustCmd_effect _ _ (.inl rfl))
  | cmdReserved v => cases h; exact .host _ rfl .illegal
  | refTick => cases h; exact .tick rfl
  | ppsRise => cases h; exact .rise rfl
  | ppsFall => cases h; exact .fall rfl
  | timeout => cases h; exact .timeout rfl
  | reset => cases h; exact .reset rfl
  | busRd size ofs =>
    simp only [exec, execBusRd_eq] at h
    split at h
    · cases h
    split at h <;> cases h <;> exact .host _ rfl .nothing
  | busWr size ofs data =>
    simp only [exec, execBusWr_eq] at h
    split at h
    · cases h
    split at h
    · cases h; exact .host _ rfl .nothing
    · rename_i hs
      rw [not_or, not_not, not_not] at hs
      cases h; rw [hs.1]; exact .host _ rfl (writeReg_effect _ _ _)
  | seq => exact execSeq_effect h
  | seqIdle => obtain ⟨hs, rfl⟩ := seqStepIn_next h; exact .idle (.inr rfl) hs
  | seqArmed => obtain ⟨hs, rfl⟩ := seqStepIn_next h; exact .armed (.inr rfl) hs
  | seqWaiting =>
    simp only [exec, execSeqWaiting] at h
    split at h
    · rename_i hc; obtain ⟨hs, rfl⟩ := seqStepIn_next h; exact .waiting (.inr rfl) hs hc
    · cases h
  | seqMeasured => obtain ⟨hs, rfl⟩ := seqStepIn_next h; exact .measured (.inr rfl) hs
  | seqAdjusting => obtain ⟨hs, rfl⟩ := seqStepIn_next h; exact .adjusting (.inr rfl) hs
  | seqFaulted => obtain ⟨hs, rfl⟩ := seqStepIn_next h; exact .faulted (.inr rfl) hs
  | seqDone => obtain ⟨hs, rfl⟩ := seqStepIn_next h; exact .done (.inr rfl) hs

end Sys2Proof.Machine
end

