-- ==== Sys2Proof/Laws/PerInstr.lean ====
section
/-! SUPPORT. Laws stated instruction by instruction. -/

namespace Sys2Proof.Laws

open Sys2Proof

namespace OperationFields

/-- The fields of an instruction's operation word (R62, R65, R68): CLASS, SIZE, OFS and DATA. A command is a BUS_WR of
size 4 to offset 0x04 that carries the command word (R69). -/
def fieldsOf : Instr → Byte × Byte × Byte × Word
  | .cmdNop => (0x11, 4, 4, 0)
  | .cmdRun => (0x11, 4, 4, 1)
  | .cmdArm => (0x11, 4, 4, 2)
  | .cmdSnapshot => (0x11, 4, 4, 3)
  | .cmdMeasure => (0x11, 4, 4, 4)
  | .cmdAdjust => (0x11, 4, 4, 5)
  | .cmdReserved v => (0x11, 4, 4, v)
  | .refTick => (0x01, 0, 0, 0)
  | .ppsRise => (0x02, 0, 0, 0)
  | .ppsFall => (0x03, 0, 0, 0)
  | .timeout => (0x04, 0, 0, 0)
  | .reset => (0x05, 0, 0, 0)
  | .busRd size ofs => (0x10, size, ofs, 0)
  | .busWr size ofs data => (0x11, size, ofs, data)
  | .seq | .seqIdle | .seqArmed | .seqWaiting | .seqMeasured | .seqAdjusting | .seqFaulted | .seqDone => (0x20, 0, 0, 0)

/-- The word of `i` has the fields the encoding tables give its row. -/
def Statement (i : Instr) : Prop :=
  (opwClass (opwOfInstr i), opwSize (opwOfInstr i), opwOfs (opwOfInstr i), opwData (opwOfInstr i)) = fieldsOf i

theorem cmdNop : Statement .cmdNop := by rfl
theorem cmdRun : Statement .cmdRun := by rfl
theorem cmdArm : Statement .cmdArm := by rfl
theorem cmdSnapshot : Statement .cmdSnapshot := by rfl
theorem cmdMeasure : Statement .cmdMeasure := by rfl
theorem cmdAdjust : Statement .cmdAdjust := by rfl
theorem cmdReserved (v : CmdWord) : Statement (.cmdReserved v) := by simp [Statement, opwOfInstr, encode, fieldsOf]
theorem refTick : Statement .refTick := by rfl
theorem ppsRise : Statement .ppsRise := by rfl
theorem ppsFall : Statement .ppsFall := by rfl
theorem timeout : Statement .timeout := by rfl
theorem reset : Statement .reset := by rfl
theorem busRd (size ofs : Byte) : Statement (.busRd size ofs) := by simp [Statement, opwOfInstr, encode, fieldsOf]
theorem busWr (size ofs : Byte) (data : Word) : Statement (.busWr size ofs data) := by
  simp [Statement, opwOfInstr, encode, fieldsOf]
theorem seq : Statement .seq := by rfl
theorem seqIdle : Statement .seqIdle := by rfl
theorem seqArmed : Statement .seqArmed := by rfl
theorem seqWaiting : Statement .seqWaiting := by rfl
theorem seqMeasured : Statement .seqMeasured := by rfl
theorem seqAdjusting : Statement .seqAdjusting := by rfl
theorem seqFaulted : Statement .seqFaulted := by rfl
theorem seqDone : Statement .seqDone := by rfl

end OperationFields

end Sys2Proof.Laws
end

