-- ==== Sys2Proof/Tests/Slice0.lean ====
section
/-! SUPPORT. Small tests, their expected values taken from spec/95_test_vectors.md (the vector's name stands in each
docstring), and for every statement with hypotheses a concrete state and operands that meet them. -/

namespace Sys2Proof.Tests

open Sys2Proof.Machine Sys2Proof.Safety

/-! ### Helpers -/

/-- The next state, where there is one. -/
def nextOf : StepOutcome → Option State
  | .next t => some t
  | .fault _ => none
  | .refused _ => none

/-- The refusal, where there is one. -/
def refusalOf : StepOutcome → Option Refusal
  | .next _ => none
  | .fault _ => none
  | .refused r => some r

/-- One field of the state after one operation. -/
def after {α : Type} (i : Instr) (s : State) (f : State → α) : Option α := (nextOf (exec i s)).map f

/-- One field of the state after some operations. -/
def afterAll {α : Type} (is : List Instr) (s : State) (f : State → α) : Option α := (nextOf (runInstrs is s)).map f

/-- The reset state in another sequencer state. -/
def inState (st : SeqState) : State := { State.reset with seqState := st.bits }

/-- The counter's two registers. -/
def counts (s : State) : Nat × Nat := (s.rcCount.toNat, s.rcOvf.toNat)

/-- The gate's registers and RC_RUN. -/
def gate (s : State) : Nat × Bool × Bool × Bool × Bool :=
  (s.pgEdges.toNat, s.pgToggle, s.pgTrigEn, s.pgComplete, s.rcRun)

/-- FAULT as a host reads it. -/
def faults (s : State) : Word := s.faultWord

/-- A just armed gate with a window of `n` edges. -/
def armed (toggleMode : Bool) (n : Byte) : State :=
  { State.reset with ctrl := if toggleMode then 0b1011 else 0b1010, windowN := n, pgTrigEn := true, rcRun := true }

/-! ### WellFormed and the decoder: what they refuse -/

theorem test_wf_refuses_assigned_command : (Instr.cmdReserved 1).wellFormed = false := by decide
theorem test_wf_refuses_read_outside : (Instr.busRd 4 0x80).wellFormed = false := by decide
theorem test_wf_refuses_write_outside : (Instr.busWr 4 0x80 0).wellFormed = false := by decide
theorem test_wf_accepts_the_last_offset : (Instr.busWr 1 0x7F 0).wellFormed = true := by decide
theorem test_decode_refuses_class : decodeTableWord 56 0x06000000000000 = none := by decide
theorem test_decode_refuses_field : decodeTableWord 56 0x01000000000001 = none := by decide
theorem test_decode_refuses_read_data : decodeTableWord 56 0x10040000000001 = none := by decide
theorem test_decode_refuses_offset : decodeTableWord 56 0x11048000000000 = none := by decide

/-! ### Decoding: a word of every constructor, written out from R61, R63, R65 and R68 -/

theorem test_word_cmd_nop : decodeTableWord 32 0x00000000 = some .cmdNop := by decide
theorem test_word_cmd_run : decodeTableWord 32 0x00000001 = some .cmdRun := by decide
theorem test_word_cmd_arm : decodeTableWord 32 0x00000002 = some .cmdArm := by decide
theorem test_word_cmd_snapshot : decodeTableWord 32 0x00000003 = some .cmdSnapshot := by decide
theorem test_word_cmd_measure : decodeTableWord 32 0x00000004 = some .cmdMeasure := by decide
theorem test_word_cmd_adjust : decodeTableWord 32 0x00000005 = some .cmdAdjust := by decide
theorem test_word_cmd_reserved_opcode : decodeTableWord 32 0x000000FF = some (.cmdReserved 0xFF) := by decide
theorem test_word_cmd_reserved_bits : decodeTableWord 32 0x00000101 = some (.cmdReserved 0x101) := by decide
theorem test_word_ref_tick : decodeTableWord 56 0x01000000000000 = some .refTick := by decide
theorem test_word_pps_rise : decodeTableWord 56 0x02000000000000 = some .ppsRise := by decide
theorem test_word_pps_fall : decodeTableWord 56 0x03000000000000 = some .ppsFall := by decide
theorem test_word_timeout : decodeTableWord 56 0x04000000000000 = some .timeout := by decide
theorem test_word_reset : decodeTableWord 56 0x05000000000000 = some .reset := by decide
theorem test_word_bus_rd : decodeTableWord 56 0x10040800000000 = some (.busRd 4 8) := by decide
theorem test_word_bus_wr : decodeTableWord 56 0x11042CFFFFFFFB = some (.busWr 4 0x2C 0xFFFFFFFB) := by decide
theorem test_word_seq : decodeTableWord 56 0x20000000000000 = some .seq := by decide

/-- The rows that name SEQ in one state have SEQ's word (R66). -/
theorem test_word_seq_rows :
    [Instr.seqIdle, .seqArmed, .seqWaiting, .seqMeasured, .seqAdjusting, .seqFaulted, .seqDone].map encode
      = List.replicate 7 (.opw 0x20000000000000) := by decide

/-- A command is a write to CMD (R69). -/
theorem test_word_of_run : opwOfInstr .cmdRun = 0x11040400000001 := by decide

/-- R69: `PULSE 2` and `CLRFAULT`. -/
theorem test_assembly_words : programWords [.pulse 2, .clrFault] =
    [0x02000000000000, 0x03000000000000, 0x02000000000000, 0x03000000000000, 0x11040C0000000F] := by decide

/-! ### Reference counter -/

/-- RC1. -/
theorem test_rc1 : after .refTick { State.reset with rcCount := 5 } counts = some (5, 0) := by decide
/-- RC3, RC4 (the tally wraps) and RC5 (W = 1). -/
theorem test_rc3_rc4_rc5 :
    [{ State.reset with rcRun := true, rcCount := 0xFFFF, rcOvf := 7 },
      { State.reset with rcRun := true, rcCount := 0xFFFF, rcOvf := 0xFFFFFFFF },
      { State.reset with widthLess1 := 0, rcRun := true, rcCount := 1, rcOvf := 3 }].map (after .refTick · counts)
      = [some (0, 8), some (0, 0), some (0, 4)] := by decide

/-! ### PPS gate -/

/-- G1. -/
theorem test_g1 : after .cmdArm { State.reset with pgEdges := 4, rcCount := 900, pgToggle := true }
    (fun s => (gate s, counts s)) = some ((0, false, true, false, true), (0, 0)) := by decide
/-- G2: WINDOW_N = 1, the largest value that fails. -/
theorem test_g2 : after .cmdArm { State.reset with windowN := 1, pgEdges := 4 } (fun s => (gate s, faults s))
    = some ((4, false, false, false, false), 4) := by decide
/-- G6. -/
theorem test_g6 : after .ppsRise { armed false 11 with rcCount := 37 } (fun s => (gate s, counts s))
    = some ((1, false, true, false, true), (0, 0)) := by decide
/-- G8. -/
theorem test_g8 : after .ppsRise { armed false 11 with pgEdges := 10, rcCount := 1234, rcOvf := 5 }
    (fun s => (gate s, counts s)) = some ((11, false, false, true, false), (1234, 5)) := by decide
/-- G7. -/
theorem test_g7 : after .ppsFall { armed false 11 with pgEdges := 3 } gate
    = some (3, false, true, false, true) := by decide
/-- G10. -/
theorem test_g10 : after .ppsFall { armed true 11 with rcCount := 9 } (fun s => (gate s, counts s))
    = some ((1, true, true, false, true), (0, 0)) := by decide

/-! ### Controller -/

/-- The example of R92. -/
theorem test_run_records : after .cmdRun { State.reset with corr := -120, calCh := 2, parkCh := 1 }
    (fun s => (s.seqState, s.prevCorr, s.out)) = some (1, -120, [.enableChannel 1 false, .setCorrection (-120),
      .setFrequency 2 3200000, .enableChannel 2 true]) := by decide
/-- S3. -/
theorem test_s3 : after .cmdRun { inState .cleanup with abortCause := 2, stf := true }
    (fun s => (s.seqState, faults s)) = some (1, 2) := by decide
/-- S26. -/
theorem test_s26 : after .cmdNop (inState .armed) (fun s => (s.seqState, faults s)) = some (2, 0) := by decide
/-- S24. -/
theorem test_s24 : after .cmdSnapshot { armed false 11 with rcCount := 7 } (fun s => (s.snapRaw, faults s))
    = some (0, 8) := by decide
/-- S25. -/
theorem test_s25 : after .cmdSnapshot { State.reset with rcCount := 0x1234, rcOvf := 3 }
    (fun s => (s.snapRaw, s.snapOvf)) = some (0x1234, 3) := by decide
/-- S4. -/
theorem test_s4 : after .seqIdle { inState .idle with iter := 23 } (·.seqState) = some 2 := by decide
/-- S5. -/
theorem test_s5 : after .seq { inState .idle with iter := 24 } (·.seqState) = some 7 := by decide
/-- S7. -/
theorem test_s7 : after .seqArmed (inState .armed) (fun s => (s.seqState, gate s))
    = some (3, (0, false, true, false, true)) := by decide
/-- S8. -/
theorem test_s8 : after .seqArmed { inState .armed with windowN := 0, iter := 2 }
    (fun s => (s.seqState, faults s, s.out)) = some (6, 0x34, [.logFault 3 2]) := by decide
/-- S9. -/
theorem test_s9 : refusalOf (exec .seqWaiting (inState .waitingForWindow)) = some .seqNotEnabled := by decide
/-- S10. -/
theorem test_s10 : after .seqWaiting { inState .waitingForWindow with pgComplete := true, rcCount := 0xD400, rcOvf := 0x30 }
    (fun s => (s.snapRaw, s.snapOvf, s.meas, s.seqState)) = some (0xD400, 0x30, 32000000, 4) := by decide
/-- S11. -/
theorem test_s11 : after .seqMeasured (inState .measured) (fun s => (s.iter, s.seqState, faults s, s.out))
    = some (1, 1, 0, []) := by decide
/-- S13: ABORT_ON_LOSS = 0. -/
theorem test_s13 : after .seqMeasured { inState .measured with iter := 2, ctrl := 8 }
    (fun s => (s.iter, s.seqState, faults s, s.out)) = some (3, 1, 1, [.logFault 1 2]) := by decide
/-- S15. -/
theorem test_s15 : after .seqAdjusting { inState .adjusting with iter := 3, corr := 100, meas := 3199990, calCh := 2 }
    (fun s => (s.prevCorr, s.corr, s.iter, s.seqState, s.out)) = some (100, 50, 4, 1,
      [.setCorrection 50, .setFrequency 2 3200000, .logIter 3 3199990 100 50]) := by decide
/-- S16: LOG_EN = 0. -/
theorem test_s16 : after .seqAdjusting { inState .adjusting with iter := 1, corr := 7, meas := 3200000, ctrl := 2 }
    (fun s => (s.prevCorr, s.corr, s.iter, s.out)) = some (7, 7, 2,
      [.setCorrection 7, .setFrequency 0 3200000]) := by decide
/-- S17. -/
theorem test_s17 : after .seqFaulted (inState .faulted) (·.seqState) = some 7 := by decide
/-- S18. -/
theorem test_s18 : after .seqDone { inState .done with calCh := 2, parkCh := 1, parkFreq := 1409710000 }
    (fun s => (s.seqState, s.busy, s.out)) = some (8, false,
      [.enableChannel 2 false, .setFrequency 1 1409710000, .enableChannel 1 true]) := by decide
/-- S19. -/
theorem test_s19 : refusalOf (exec .seq (inState .cleanup)) = some .seqNotEnabled := by decide
/-- S21: the completed window wins. -/
theorem test_s21 : after .timeout { inState .waitingForWindow with ctrl := 0b1110, pgComplete := true }
    (fun s => (s.seqState, faults s)) = some (3, 0) := by decide
/-- S23. -/
theorem test_s23 : after .timeout { inState .waitingForWindow with
      ctrl := 0b1110, pgTrigEn := true, rcRun := true, pgEdges := 3, iter := 2 }
    (fun s => (gate s, s.seqState, faults s, s.out)) =
      some ((3, false, false, false, false), 6, 0x22, [.logFault 2 2]) := by decide

/-! ### Arithmetic -/

/-- A3. -/
theorem test_a3 : measFreq 65536 65535 0xFFFFFFFF 65535 = 0xFFFEFFFFFFFF0001 := by decide
/-- A9, A10, A11, A12. -/
theorem test_huff : huff 2147483647 3200001 3200000 1 = -2147483648 ∧ huff (-2147483648) 3199999 3200000 50 = 2147483598 ∧
    huff 0 4294967301 3200000 50 = 50 ∧ huff (-1) 0xFFFFFFFF 0xFFFFFFFF 65535 = -1 := by decide
/-- A13. -/
theorem test_a13 : after .cmdMeasure { State.reset with snapRaw := 5, snapOvf := 2 } (·.meas) = some 1310770 := by decide
/-- A14. -/
theorem test_a14 : after .cmdMeasure { inState .idle with snapRaw := 5 } (fun s => (s.meas, faults s))
    = some (0, 8) := by decide
/-- A15. -/
theorem test_a15 : after .cmdAdjust { State.reset with meas := 3200100, corr := -20 }
    (fun s => (s.prevCorr, s.corr, s.out, s.iter)) = some (-20, 30, [], 0) := by decide
/-- A16. -/
theorem test_a16 : after .cmdAdjust { State.reset with corr := 9 } (fun s => (s.corr, s.prevCorr, faults s))
    = some (9, 0, 1) := by decide

/-! ### Host bus, command words and reset -/

/-- D2, D3 and D5. -/
theorem test_reserved_commands :
    [0xFF, 0x101, 0x100].map (fun v => after (.busWr 4 4 v) State.reset (fun s => (s.seqState, faults s)))
      = [some (0, 8), some (0, 8), some (0, 8)] := by decide
/-- D1 on the row of reserved commands. -/
theorem test_d1 : after (.cmdReserved 6) State.reset (fun s => (s.seqState, faults s)) = some (0, 8) := by decide
/-- M19. -/
theorem test_m19 : after (.busRd 4 8) { inState .waitingForWindow with pgTrigEn := true, rcRun := true, pgEdges := 4 }
    (·.busResponse) = some (some (.readData 0x000400D3)) := by decide
/-- M4, M5. -/
theorem test_m4_m5 : [Instr.busRd 4 1, .busRd 2 0].map (after · State.reset (·.busResponse))
    = [some (some .busError), some (some .busError)] := by decide
/-- M11 and M16. -/
theorem test_m11_m16 : after (.busWr 4 0x24 0xABCD0102) State.reset (fun s => (s.calCh, s.parkCh)) = some (2, 1) ∧
    after (.busWr 4 0x0C 8) { State.reset with slf := true, ill := true, abortCause := 1 } faults = some 0x11 := by decide
/-- X1. -/
theorem test_x1 : after .reset { inState .waitingForWindow with
      pgEdges := 5, corr := -300, ctrl := 4, out := [.setCorrection 1] }
    (fun s => (s.seqState, s.corr, s.ctrl, s.target, s.out)) = some (0, 0, 10, 3200000, [.setCorrection 1]) := by decide

/-! ### The step -/

/-- The word of the opcode table runs as the first operation after reset. -/
theorem test_step_runs_the_word :
    (nextOf (step (State.reset.withFetchWord 56 0x11041000000064))).map (fun s => (s.target, s.pending))
      = some (100, []) := by decide

/-- Nothing presented and no sequencer step enabled: stuck. -/
theorem test_step_stuck : step State.reset = .fault .stuck := by rfl

/-! ### Witnesses: each statement with hypotheses has an input that meets them -/

/-- A window of 2 edges in mode 0 with 3 ticks between them, and a tick before and after it that are not counted. -/
def window3 : List Instr := [.refTick, .ppsRise, .refTick, .ppsFall, .refTick, .refTick, .ppsRise, .refTick]

/-- A window of 2 edges that counts nothing. -/
def window0 : List Instr := [.ppsRise, .ppsRise]

/-- The reset state with a window of 2 edges. -/
def shortWindow : State := { State.reset with windowN := 2 }

theorem window3_is_a_window : WindowOf false 2 3 window3 :=
  ⟨by decide, [.refTick], .ppsRise, [.refTick, .ppsFall, .refTick, .refTick], .ppsRise, [.refTick], rfl,
    by decide, by decide, by decide, by decide, by decide⟩

theorem window0_is_a_window : WindowOf false 2 0 window0 :=
  ⟨by decide, [], .ppsRise, [], .ppsRise, [], rfl, by decide, by decide, by decide, by decide, by decide⟩

/-- In mode 1 a window of 2 edges has three transitions, whatever their directions. -/
theorem toggle_window_is_a_window : WindowOf true 2 1 [.ppsFall, .refTick, .ppsRise, .ppsFall] :=
  ⟨by decide, [], .ppsFall, [.refTick, .ppsRise], .ppsFall, [], rfl, by decide, by decide, by decide, by decide,
    by decide⟩

theorem witness_DecodeInvertsEncode :
    ((Instr.busRd 4 0x7F).wellFormed = true ∧ isSeqRow (.busRd 4 0x7F) = false) ∧
    (Instr.seqIdle.wellFormed = true ∧ isSeqRow .seqIdle = true) := by decide

theorem witness_EncodeInvertsDecode : decode (.opw 0x11047FFFFFFFFF) = .ok (.busWr 4 0x7F 0xFFFFFFFF) := by rfl

theorem witness_StepRunsTheDecodedOperation :
    (State.reset.withFetchWord 56 0x05000000000000).pending = .opw 0x05000000000000 :: [] ∧
    decode (.opw 0x05000000000000) = .ok .reset ∧
    decode (.opw 0x06000000000000) = .error (.unlistedClass 6) := ⟨rfl, rfl, rfl⟩

theorem witness_StepWithNothingPresented :
    (inState .idle).pending = [] ∧ (inState .idle).seqEnabled = true ∧ (inState .cleanup).seqEnabled = false := by decide

theorem witness_RunOfPresentedOperations :
    ∀ i ∈ [Instr.cmdRun, .seq, .busRd 4 0x7F], i.wellFormed = true ∧ isSeqRow i = false := by decide

theorem witness_CountLaw : State.reset.rcCount = 0 ∧ State.reset.rcOvf = 0 ∧
    ∃ t, runInstrs [.cmdArm, .refTick] State.reset = .next t ∧ countedSince [.cmdArm, .refTick] State.reset 0 = 1 :=
  ⟨rfl, rfl, _, rfl, by decide⟩

theorem witness_FrozenCountsAreStable : ∃ t, exec .refTick State.reset = .next t ∧ State.reset.rcRun = false ∧
    resetsCounter .refTick State.reset = false := ⟨_, rfl, rfl, rfl⟩

/-- Mode 0: one rise is inside the window of 2, two close it. -/
theorem witness_WindowLengthLaw_rises : shortWindow.busy = false ∧ 2 ≤ shortWindow.windowN.toNat ∧
    (∀ e ∈ window3, isGateEvent e = true) ∧
    [Instr.ppsRise].countP (seenTransition shortWindow.edgeMode) < seenPerWindow shortWindow.edgeMode 2 ∧
    seenPerWindow shortWindow.edgeMode 2 ≤ window3.countP (seenTransition shortWindow.edgeMode) := by decide

/-- Mode 1: two transitions are inside the window of 2, three close it. -/
theorem witness_WindowLengthLaw_transitions :
    { shortWindow with ctrl := 0b1011 }.busy = false ∧ { shortWindow with ctrl := 0b1011 }.edgeMode = true ∧
    [Instr.ppsRise, .ppsFall].countP (seenTransition true) < seenPerWindow true 2 ∧
    seenPerWindow true 2 ≤ [Instr.ppsRise, .ppsFall, .ppsRise].countP (seenTransition true) := by decide

theorem witness_CountedEdgesLaw : shortWindow.busy = false ∧ 2 ≤ shortWindow.windowN.toNat ∧
    WindowOf shortWindow.edgeMode shortWindow.windowN.toNat 3 window3 := ⟨by decide, by decide, window3_is_a_window⟩

theorem witness_NopCommand : ((0x100 : CmdWord).toNat % 256 = 0 ∧ (0x100 : CmdWord) ≠ 0) := by decide

theorem witness_ReservedCommand : 5 < (6 : CmdWord).toNat % 256 ∧ 256 ≤ (0x100 : CmdWord).toNat := by decide

theorem witness_IdleStep : (Instr.seqIdle = .seq ∨ Instr.seqIdle = .seqIdle) ∧ (inState .idle).seqState = 1 := by decide

theorem witness_ArmedStep : (Instr.seqArmed = .seq ∨ Instr.seqArmed = .seqArmed) ∧ (inState .armed).seqState = 2 := by decide

theorem witness_MeasuredStep : (Instr.seqMeasured = .seq ∨ Instr.seqMeasured = .seqMeasured) ∧ (inState .measured).seqState = 4 := by decide

theorem witness_AdjustingStep : (Instr.seqAdjusting = .seq ∨ Instr.seqAdjusting = .seqAdjusting) ∧ (inState .adjusting).seqState = 5 := by decide

theorem witness_FaultedStep : (Instr.seqFaulted = .seq ∨ Instr.seqFaulted = .seqFaulted) ∧ (inState .faulted).seqState = 6 := by decide

theorem witness_DoneStep : (Instr.seqDone = .seq ∨ Instr.seqDone = .seqDone) ∧ (inState .done).seqState = 7 := by decide

/-- Both clauses: the window closed, and not. -/
theorem witness_WaitingStep : (Instr.seqWaiting = .seq ∨ Instr.seqWaiting = .seqWaiting) ∧
    (inState .waitingForWindow).seqState = 3 ∧ (inState .waitingForWindow).pgComplete = false ∧
    { inState .waitingForWindow with pgComplete := true }.pgComplete = true := by decide

theorem witness_SeqExistsOnlyWhereEnabled : State.reset.seqState = 0 ∧ (inState .cleanup).seqState = 8 ∧
    9 ≤ ({ State.reset with seqState := 9 }).seqState.toNat := by decide

theorem witness_SettleStops : (inState .cleanup).seqState.toNat < 9 := by decide

theorem witness_PowerOnIsReset : State.reset.busResponse = none ∧ State.reset.pending = [] := by decide

theorem witness_BusReadReturnsTheRegister : (0x48, 0x7C) = ((0x48 : Byte).toNat, (0x7C : Byte).toNat) ∧
    0x48 % 4 = 0 ∧ 0x7C % 4 = 0 ∧ (0x44, 0) ∈ readings State.reset := by decide

theorem witness_BusErrorsChangeNothing : (0x7F : Byte).toNat ≤ 0x7F ∧ (2 : Byte) ≠ 4 ∧ (0x7F : Byte).toNat % 4 ≠ 0 := by
  decide

theorem witness_AccessOutsideTheWindow : 0x80 ≤ (0x80 : Byte).toNat := by decide

theorem witness_ConfigWriteUnlocked : State.reset.locked = false := by decide

/-- A manual window locks without BUSY; the last configuration offset. -/
theorem witness_ConfigWriteLocked : (armed false 2).locked = true ∧ (inState .idle).locked = true ∧
    (0x28 : Byte).toNat ∈ [0x00, 0x10, 0x14, 0x18, 0x1C, 0x20, 0x24, 0x28] := by decide

theorem witness_ReadOnlyWritesAreIgnored : (0x08 : Byte).toNat = 0x08 ∧ 0x30 ≤ (0x30 : Byte).toNat ∧
    (0x7C : Byte).toNat ≤ 0x7C ∧ (0x7C : Byte).toNat % 4 = 0 := by decide

theorem witness_MeasFreqIsExact : (0xFFFF : BitVec 16).toNat < 2 ^ 16 ∧ (1 : BitVec 16).toNat < 2 ^ 1 := by decide

/-- The reset state meets the invariant, and so does a state with a window armed. -/
theorem inv_of_fields (s : State) (h : decide (
    ((s.pgComplete = true → s.pgTrigEn = false ∧ s.rcRun = false) ∧
    (s.pgTrigEn = true → s.rcRun = true ∧ 2 ≤ s.windowN.toNat ∧ s.pgEdges.toNat < s.windowN.toNat) ∧
    (s.busy = true → s.iter.toNat ≤ s.iterCount.toNat) ∧
    (s.seqState = SeqState.waitingForWindow.bits → s.pgTrigEn = true ∨ s.pgComplete = true) ∧
    s.seqState.toNat < 9) ∧ s.rcCount.toNat < s.modulus ∧ s.snapRaw.toNat < s.modulus ∧
    (2 ≤ s.seqState.toNat → s.seqState.toNat ≤ 5 → s.iter.toNat < s.iterCount.toNat) ∧
    s.rcRun = s.pgTrigEn ∧ s.abortCause.toNat ≤ 3) = true) : Inv s := by
  obtain ⟨⟨a, b, d, e, f⟩, g, h, i, j, k⟩ := of_decide_eq_true h
  exact ⟨⟨a, b, by omega, d, e, f⟩, g, h, i, j, k⟩

theorem witness_StepKeepsInvariant :
    Inv ({ inState .waitingForWindow with pgTrigEn := true, rcRun := true }.withFetchWord 56 0x02000000000000) ∧
    ∃ t, step ({ inState .waitingForWindow with pgTrigEn := true, rcRun := true }.withFetchWord 56 0x02000000000000)
      = .next t := ⟨inv_of_fields _ (by decide), _, rfl⟩

theorem witness_ReachableStatesObeyInvariants : ∃ s, Reachable s ∧ s.seqState = 1 :=
  ⟨_, .step (.powerOn 0 1 [.cmd 1]) rfl, by decide⟩

theorem witness_SequencerGraph : State.reset.seqState.toNat < 9 ∧
    ∃ t, exec .cmdRun State.reset = .next t ∧ t.seqState ≠ State.reset.seqState := ⟨by decide, _, rfl, by decide⟩

theorem witness_LockedConfigurationIsStatic : (armed false 2).locked = true ∧ Instr.busWr 4 0x10 5 ≠ .reset ∧
    ∃ t, exec (.busWr 4 0x10 5) (armed false 2) = .next t := ⟨by decide, by decide, _, rfl⟩

theorem witness_ParametersNeverChange : ∃ t, step (State.reset.withFetchWord 32 1) = .next t := ⟨_, rfl⟩

/-- CORR changes by ADJUST, by the ADJUSTING step and by a host write. -/
theorem witness_CorrChangesOnlyBy :
    (∃ t, exec .cmdAdjust { State.reset with meas := 1 } = .next t ∧ t.corr ≠ State.reset.corr) ∧
    (∃ t, exec .seq { inState .adjusting with meas := 1 } = .next t ∧ t.corr ≠ State.reset.corr) ∧
    (∃ t, exec (.busWr 4 0x2C 5) State.reset = .next t ∧ t.corr ≠ State.reset.corr) :=
  ⟨⟨_, rfl, by decide⟩, ⟨_, rfl, by decide⟩, ⟨_, rfl, by decide⟩⟩

/-- The snapshot changes by SNAPSHOT, and both by the WAITING_FOR_WINDOW step. -/
theorem witness_MeasurementChangesOnlyBy :
    (∃ t, exec .cmdSnapshot { State.reset with rcCount := 7 } = .next t ∧ t.snapRaw ≠ 0) ∧
    (∃ t, exec .seq { inState .waitingForWindow with pgComplete := true, rcCount := 7 } = .next t ∧ t.meas ≠ 0) :=
  ⟨⟨_, rfl, by decide⟩, ⟨_, rfl, by decide⟩⟩

theorem witness_StickyBitsStay :
    ∃ t, exec (.busWr 4 0x0C 0xF) { State.reset with slf := true, stf := true, hif := true, ill := true } = .next t ∧
      t.slf = false ∧ t.stf = false ∧ t.hif = false ∧ t.ill = false := ⟨_, rfl, by decide⟩

/-- The three faults that abort a cycle. -/
theorem witness_FaultEntryIsPrecise :
    (∃ t, exec .seq { inState .measured with iter := 1 } = .next t ∧ t.seqState = 6) ∧
    (∃ t, exec .timeout { inState .waitingForWindow with ctrl := 0b1110 } = .next t ∧ t.seqState = 6) ∧
    (∃ t, exec .seq { inState .armed with windowN := 1 } = .next t ∧ t.seqState = 6) :=
  ⟨⟨_, rfl, by decide⟩, ⟨_, rfl, by decide⟩, ⟨_, rfl, by decide⟩⟩

theorem witness_OutputIsAppendedAndNeverRead : ∃ t, exec .cmdRun State.reset = .next t := ⟨_, rfl⟩

theorem witness_IterationZeroIsDiscarded : { shortWindow with seqState := 1 }.seqState = 1 ∧ shortWindow.iter = 0 ∧
    0 < shortWindow.iterCount.toNat ∧ 2 ≤ shortWindow.windowN.toNat ∧
    WindowOf shortWindow.edgeMode shortWindow.windowN.toNat 3 window3 :=
  ⟨rfl, rfl, by decide, by decide, window3_is_a_window⟩

theorem witness_IterationAdjustsOnce : { shortWindow with seqState := 1, iter := 1 }.seqState = 1 ∧
    1 ≤ (1 : Byte).toNat ∧ (1 : Byte).toNat < shortWindow.iterCount.toNat ∧
    WindowOf shortWindow.edgeMode shortWindow.windowN.toNat 3 window3 ∧
    3 < shortWindow.modulus * 2 ^ 32 ∧ 3 * shortWindow.scale.toNat ≠ 0 :=
  ⟨rfl, by decide, by decide, window3_is_a_window, by decide, by decide⟩

/-- I = 0; and I = 3 with iteration 0 counting nothing. -/
theorem witness_NormalCycle : { State.reset with iterCount := 0 }.busy = false ∧
    { shortWindow with iterCount := 3 }.busy = false ∧
    { shortWindow with iterCount := 3 }.iterCount.toNat = [window3, window3].length + 1 ∧
    WindowOf shortWindow.edgeMode shortWindow.windowN.toNat 0 window0 ∧
    List.Forall₂ (WindowOf shortWindow.edgeMode shortWindow.windowN.toNat) [3, 3] [window3, window3] ∧
    ∀ T ∈ [3, 3], T < shortWindow.modulus * 2 ^ 32 ∧ T * shortWindow.scale.toNat ≠ 0 :=
  ⟨by decide, by decide, by decide, window0_is_a_window,
    .cons window3_is_a_window (.cons window3_is_a_window .nil), by decide⟩

/-- One good iteration, then one that counts nothing. -/
theorem witness_SignalLossAbortsTheCycle : shortWindow.busy = false ∧ shortWindow.abortOnLoss = true ∧
    [window3].length + 1 < shortWindow.iterCount.toNat ∧
    WindowOf shortWindow.edgeMode shortWindow.windowN.toNat 3 window3 ∧
    List.Forall₂ (WindowOf shortWindow.edgeMode shortWindow.windowN.toNat) [3] [window3] ∧
    WindowOf shortWindow.edgeMode shortWindow.windowN.toNat 0 window0 ∧
    0 % (shortWindow.modulus * 2 ^ 32) * shortWindow.scale.toNat = 0 :=
  ⟨by decide, by decide, by decide, window3_is_a_window, .cons window3_is_a_window .nil, window0_is_a_window, by decide⟩

end Sys2Proof.Tests
end

/-! # Scope: one step, what is presented, and what no step touches (00_scope.md)

The statements on a step, on runs of presented words, on the parameters and on the output port. The key fact is
`exec_appends`: an operation reads neither the trace, nor the bus response, nor what is presented next. -/

namespace Sys2Proof.Proofs.Scope

open Sys2Proof.Machine Sys2Proof.Safety

/-! ## One step (R13) -/

/-- A presented word that decodes is taken from `pending` and executed. -/
theorem step_of_decode_ok {s : State} {r : RawOp} {rest : List RawOp} {i : Instr} (hp : s.pending = r :: rest)
    (hd : decode r = .ok i) : step s = exec i { s with pending := rest } := by
  simp only [step, hp, hd]

/-- A presented word that names no step is refused with the decoder's reason (R62). -/
theorem step_of_decode_error {s : State} {r : RawOp} {rest : List RawOp} {e : DecodeError}
    (hp : s.pending = r :: rest) (hd : decode r = .error e) : step s = .refused (.noSuchOperation e) := by
  simp only [step, hp, hd]

/-- Settles O7: the two outcomes of the decoder, one lemma each. -/
theorem stepRunsTheDecodedOperation : Obligations.StepRunsTheDecodedOperation :=
  fun _ _ _ hp => ⟨fun _ => step_of_decode_ok hp, fun _ => step_of_decode_error hp⟩

/-- Settles O8: the branch of `step` for an empty `pending`. -/
theorem stepWithNothingPresented : Obligations.StepWithNothingPresented := by
  intro s hp
  simp only [step, hp]

/-! ## The parameters (R7, R8, R43) -/

/-- Two states have the same counter width and the same base address. -/
def SameParams (s t : State) : Prop := t.widthLess1 = s.widthLess1 ∧ t.basePage = s.basePage

/-- W and BASE are functions of the parameters alone. -/
theorem SameParams.width_base {s t : State} (h : SameParams s t) : t.width = s.width ∧ t.base = s.base := by
  obtain ⟨hw, hb⟩ := h
  exact ⟨by rw [State.width, State.width, hw], by rw [State.base, State.base, hb]⟩

theorem writeConfig_sameParams (r : Reg) (v : Word) (s : State) : SameParams s (s.writeConfig r v) := by
  cases r <;> exact ⟨rfl, rfl⟩

theorem refTick_sameParams (s : State) : SameParams s (refTick s) := by
  unfold refTick State.rcCountEdge
  split
  · exact ⟨rfl, rfl⟩
  · split <;> exact ⟨rfl, rfl⟩

theorem ppsEvent_sameParams (s : State) (ev : PpsEvent) : SameParams s (s.ppsEvent ev) := by
  rcases s.ppsEvent_cases ev with h | ⟨_, _, _, h⟩ | ⟨_, _, _, h⟩ | ⟨_, _, _, h⟩ <;> rw [h] <;> exact ⟨rfl, rfl⟩

theorem timeoutStrobe_sameParams (s : State) : SameParams s (timeoutStrobe s) := by
  rcases timeoutStrobe_cases s with h | ⟨_, _, _, h⟩ <;> rw [h] <;> exact ⟨rfl, rfl⟩

theorem idleStep_sameParams (s : State) : SameParams s (idleStep s) := by
  unfold idleStep
  split <;> exact ⟨rfl, rfl⟩

theorem armedStep_sameParams (s : State) : SameParams s (armedStep s) := by
  rcases armedStep_cases s with ⟨_, h⟩ | ⟨_, h⟩ <;> rw [h] <;> exact ⟨rfl, rfl⟩

theorem measuredStep_sameParams (s : State) : SameParams s (measuredStep s) := by
  rcases measuredStep_cases s with ⟨_, h⟩ | ⟨_, _, _, h⟩ | ⟨_, _, _, h⟩ | ⟨_, _, h⟩ <;> rw [h] <;> exact ⟨rfl, rfl⟩

theorem adjustStep_sameParams (s : State) : SameParams s (adjustStep s) := by
  rw [adjustStep_eq]; exact ⟨rfl, rfl⟩

theorem doneStep_sameParams (s : State) : SameParams s (doneStep s) := by
  rw [doneStep_eq]; exact ⟨rfl, rfl⟩

/-- No host access writes a parameter. -/
theorem hostEffect_sameParams {i : Instr} {s t : State} (h : HostEffect i s t) : SameParams s t := by
  cases h with
  | config r v => exact writeConfig_sameParams r v s
  | nothing | illegal | run | arm | armFails | snapshot | measure | adjust | adjustLoss | clear | corr =>
    exact ⟨rfl, rfl⟩

/-- No operation writes a parameter, RESET included (R133). -/
theorem execEffect_sameParams {i : Instr} {s t : State} (h : ExecEffect i s t) : SameParams s t := by
  cases h with
  | host r _ hu =>
    obtain ⟨hw, hb⟩ := hostEffect_sameParams hu
    exact ⟨hw, hb⟩
  | tick => exact refTick_sameParams s
  | rise | fall => exact ppsEvent_sameParams s _
  | timeout => exact timeoutStrobe_sameParams s
  | idle => exact idleStep_sameParams s
  | armed => exact armedStep_sameParams s
  | measured => exact measuredStep_sameParams s
  | adjusting => exact adjustStep_sameParams s
  | done => exact doneStep_sameParams s
  | reset | waiting | faulted => exact ⟨rfl, rfl⟩

/-- Settles O51: a step is the meaning of one operation, and no meaning writes a parameter. -/
theorem parametersNeverChange : Obligations.ParametersNeverChange := by
  intro s t h
  rcases step_cases s t h with ⟨_, _, _, _, _, hx⟩ | ⟨_, _, hx⟩
  · exact (execEffect_sameParams (exec_effect hx)).width_base
  · exact (execEffect_sameParams (exec_effect hx)).width_base

/-! ## The environment's side of the state (R12, R41)

The trace `out`, the bus response and the schedule `pending` are written or presented, never read. `Appending` says so
of a function of the state; it is closed under composition, and under conditionals whose test does not look at the
environment's side. -/

/-- `s` with another trace, bus response and schedule. -/
def withEnv (o : List OutRecord) (b : Option BusResponse) (p : List RawOp) (s : State) : State :=
  { s with out := o, busResponse := b, pending := p }

/-- Go on with `x` from the next state, where there is one. -/
def andThen (r : StepOutcome) (x : State → StepOutcome) : StepOutcome :=
  match r with
  | .next t => x t
  | .fault e => .fault e
  | .refused e => .refused e

/-- A state-valued function applied to the next state, where there is one. -/
def mapNext (f : State → State) (r : StepOutcome) : StepOutcome := andThen r fun t => .next (f t)

/-- An outcome with another trace, bus response and schedule; a `host` access keeps the response it has given. -/
def outcomeWithEnv (host : Bool) (o : List OutRecord) (b : Option BusResponse) (p : List RawOp) :
    StepOutcome → StepOutcome :=
  mapNext fun t => withEnv o (if host then t.busResponse else b) p t

/-- From any trace, bus response and schedule `x` gives the same result, with the same records appended to the trace;
`put` places an environment's side in a result. -/
def Appending {α : Type} (put : List OutRecord → Option BusResponse → List RawOp → α → α) (x : State → α) : Prop :=
  ∀ s, ∃ records, ∀ o b p, x (withEnv o b p s) = put (o ++ records) b p (x s)

/-- `Appending` for an update of the state. -/
abbrev Appends : (State → State) → Prop := Appending withEnv

/-- `Appending` for an outcome; `host` tells whether it sets the bus response itself. -/
abbrev OutcomeAppends (host : Bool) : (State → StepOutcome) → Prop := Appending (outcomeWithEnv host)

/-- An update that leaves the trace alone. -/
theorem Appending.of_quiet {f : State → State}
    (h : ∀ s o b p, f (withEnv o b p s) = withEnv o b p (f s) := by exact fun _ _ _ _ => rfl) : Appends f :=
  fun s => ⟨[], fun o b p => by rw [List.append_nil, h]⟩

theorem Appending.comp {f g : State → State} (hg : Appends g) (hf : Appends f) : Appends (fun s => g (f s)) := by
  intro s
  obtain ⟨rf, hf⟩ := hf s
  obtain ⟨rg, hg⟩ := hg (f s)
  exact ⟨rf ++ rg, fun o b p => by dsimp only; rw [hf, hg, List.append_assoc]⟩

theorem Appending.ite {α : Type} {put : List OutRecord → Option BusResponse → List RawOp → α → α} (c : State → Prop)
    [DecidablePred c] {x y : State → α} (hx : Appending put x) (hy : Appending put y)
    (hc : ∀ s o b p, c (withEnv o b p s) ↔ c s := by exact fun _ _ _ _ => .rfl) :
    Appending put (fun s => if c s then x s else y s) := by
  intro s
  by_cases h : c s
  · obtain ⟨records, hx⟩ := hx s
    exact ⟨records, fun o b p => by dsimp only; rw [if_pos h, if_pos ((hc ..).mpr h), hx]⟩
  · obtain ⟨records, hy⟩ := hy s
    exact ⟨records, fun o b p => by dsimp only; rw [if_neg h, if_neg (mt (hc ..).mp h), hy]⟩

/-- An operation that is no host access leaves the bus response alone. -/
theorem Appending.next {f : State → State} (hf : Appends f) : OutcomeAppends false (fun s => .next (f s)) := by
  intro s
  obtain ⟨records, hf⟩ := hf s
  exact ⟨records, fun o b p => congrArg _ (hf o b p)⟩

/-- A host access ends with a response. -/
theorem Appending.respond {f : State → State} {r : State → BusResponse} (hf : Appends f)
    (hr : ∀ s o b p, r (withEnv o b p s) = r s := by exact fun _ _ _ _ => rfl) :
    OutcomeAppends true (fun s => .next ((f s).respond (r s))) := by
  intro s
  obtain ⟨records, hf⟩ := hf s
  exact ⟨records, fun o b p => by dsimp only; rw [hf, hr]; rfl⟩

/-- Where an operation is refused, it is refused in every environment. -/
theorem Appending.refused {host : Bool} {e : Refusal} : OutcomeAppends host (fun _ => .refused e) :=
  fun _ => ⟨[], fun _ _ _ => rfl⟩

/-! ### The operations on the state -/

/-- An illegal operation emits nothing (R118). -/
theorem setIll_appends : Appends State.setIll := .of_quiet

theorem goto_appends (st : SeqState) : Appends (·.goto st) := .of_quiet

theorem setSticky_appends (f : FaultKind) : Appends (·.setSticky f) :=
  .of_quiet fun _ _ _ _ => by cases f <;> rfl

/-- Taking an aborting fault emits its LogFault record (R125). -/
theorem abortCycle_appends (f : FaultKind) : Appends (·.abortCycle f) :=
  fun s => ⟨[.logFault f.code s.iter], fun _ _ _ => by simp only [State.abortCycle_eq]; rfl⟩

/-- A fault that does not abort emits its LogFault record (R117). -/
theorem reportFault_appends (f : FaultKind) : Appends (·.reportFault f) :=
  fun s => ⟨[.logFault f.code s.iter], fun _ _ _ => by cases f <;> rfl⟩

theorem refTick_appends : Appends refTick :=
  .ite (fun s => (!s.rcRun) = true) .of_quiet
    (.ite (fun s => s.rcCount.toNat = s.modulus - 1) .of_quiet .of_quiet)

theorem gateEdge_appends : Appends State.gateEdge :=
  .of_quiet fun _ _ _ _ => by simp only [State.gateEdge_eq]; rfl

theorem ppsEvent_appends (ev : PpsEvent) : Appends (·.ppsEvent ev) :=
  .ite (fun s => (!s.pgTrigEn) = true) .of_quiet
    (.ite (fun s => (!s.edgeMode) = true)
      (.ite (fun _ => ev = .rise) gateEdge_appends .of_quiet)
      (.ite (fun s => (!s.pgToggle) = true)
        (gateEdge_appends.comp (f := fun s => { s with pgToggle := !s.pgToggle }) .of_quiet) .of_quiet))

theorem timeoutStrobe_appends : Appends timeoutStrobe :=
  .ite (fun s => (s.timeoutEn && s.seqState == SeqState.waitingForWindow.bits && !s.pgComplete) = true)
    ((abortCycle_appends .samplingTimeout).comp (f := fun s => { s.rcFreeze with pgTrigEn := false }) .of_quiet)
    .of_quiet

/-! ### The sequencer steps -/

theorem idleStep_appends : Appends idleStep :=
  .ite (fun s => s.iter.toNat < s.iterCount.toNat) (goto_appends _) (goto_appends _)

theorem armedStep_appends : Appends armedStep :=
  .ite (fun s => s.armable = true) .of_quiet (abortCycle_appends _)

theorem waitStep_appends : Appends waitStep := .of_quiet

theorem measuredStep_appends : Appends measuredStep :=
  .ite (fun s => s.iter = 0) .of_quiet
    (.ite (fun s => s.meas = 0)
      (.ite (fun s => s.abortOnLoss = true) (abortCycle_appends _)
        (.comp (g := State.nextIteration) .of_quiet (reportFault_appends _)))
      (goto_appends _))

theorem adjustStep_appends : Appends adjustStep := fun s =>
  ⟨[.setCorrection (huff s.corr s.meas s.target s.stepSize), .setFrequency s.calCh s.target] ++
      if s.logEn then [.logIter s.iter s.meas s.corr (huff s.corr s.meas s.target s.stepSize)] else [],
    fun _ _ _ => by simp only [adjustStep_eq]; rfl⟩

theorem doneStep_appends : Appends doneStep :=
  fun s => ⟨cleanupRecords s, fun _ _ _ => by simp only [doneStep_eq]; rfl⟩

/-! ### The commands and the bus -/

theorem runCmd_appends : Appends runCmd :=
  .ite (fun s => s.busy = true) setIll_appends fun s =>
    ⟨startRecords s, fun o _ _ => by simp [State.emit, State.goto, startRecords, withEnv]⟩

theorem armCmd_appends : Appends armCmd :=
  .ite (fun s => s.busy = true) setIll_appends
    (.ite (fun s => s.armable = true) .of_quiet (setSticky_appends _))

theorem snapshotCmd_appends : Appends snapshotCmd :=
  .ite (fun s => (s.busy || s.pgTrigEn) = true) setIll_appends .of_quiet

theorem measureCmd_appends : Appends measureCmd :=
  .ite (fun s => s.busy = true) setIll_appends .of_quiet

theorem adjustCmd_appends : Appends adjustCmd :=
  .ite (fun s => s.busy = true) setIll_appends
    (.ite (fun s => s.meas = 0) (setSticky_appends _) .of_quiet)

theorem execCommand_appends (v : CmdWord) : Appends (execCommand v) := by
  unfold execCommand
  split
  · exact setIll_appends
  split
  · exact .of_quiet
  split
  · exact runCmd_appends
  split
  · exact armCmd_appends
  split
  · exact snapshotCmd_appends
  split
  · exact measureCmd_appends
  split
  · exact adjustCmd_appends
  · exact setIll_appends

theorem writeReg_appends (r : Reg) (v : Word) : Appends (writeReg r v) := by
  cases r with
  | cmd => exact execCommand_appends v
  | ctrl | target | step | iterCount | windowN | scale | chan | parkFreq =>
    exact .ite (fun s => s.locked = true) setIll_appends .of_quiet
  | corr => exact .ite (fun s => s.busy = true) setIll_appends .of_quiet
  | fault | status | prevCorr | iter | snapRaw | snapOvf | measLo | measHi | reserved => exact .of_quiet

/-- A bus error changes only the response (R45, R46). -/
theorem busError_appends : OutcomeAppends true (fun s => .next (s.respond .busError)) :=
  .respond (f := id) (r := fun _ => .busError) .of_quiet

theorem execBusRd_appends (size ofs : Byte) : OutcomeAppends true (execBusRd size ofs) := by
  rw [funext (execBusRd_eq size ofs)]
  split
  · exact .refused
  split
  · exact busError_appends
  · refine .respond (f := id) (r := fun s => .readData (s.readReg (regAt ofs.toNat))) .of_quiet ?_
    intro s o b p
    cases regAt ofs.toNat <;> rfl

theorem execBusWr_appends (size ofs : Byte) (data : Word) : OutcomeAppends true (execBusWr size ofs data) := by
  rw [funext (execBusWr_eq size ofs data)]
  split
  · exact .refused
  split
  · exact busError_appends
  · exact .respond (r := fun _ => .writeOk) (writeReg_appends _ data)

/-! ### All operations -/

/-- A command is answered as a write to CMD (R49). -/
theorem command_appends {f : State → State} (hf : Appends f) :
    OutcomeAppends true (fun s => .next ((f s).respond .writeOk)) :=
  .respond (r := fun _ => .writeOk) hf

/-- A row that names SEQ in one state: its step in that state, refused elsewhere (R66). -/
theorem seqStepIn_appends (st : SeqState) {f : State → State} (hf : Appends f) :
    OutcomeAppends false (fun s => s.seqStepIn st (f s)) :=
  .ite (fun s => s.seqState = st.bits) (.next hf) .refused

/-- SEQ's outcome where STATE encodes `st` (R66). -/
def seqIn : SeqState → State → StepOutcome
  | .idle, s => .next (idleStep s)
  | .armed, s => .next (armedStep s)
  | .waitingForWindow, s => if s.pgComplete then .next (waitStep s) else .refused .seqNotEnabled
  | .measured, s => .next (measuredStep s)
  | .adjusting, s => .next (adjustStep s)
  | .faulted, s => .next (faultedStep s)
  | .done, s => .next (doneStep s)
  | .stopped, _ | .cleanup, _ => .refused .seqNotEnabled

theorem execSeq_of_state {s : State} {st : SeqState} (h : SeqState.ofBits s.seqState = some st) :
    execSeq s = seqIn st s := by
  unfold execSeq
  rw [h]
  cases st <;> rfl

theorem execSeq_of_unused {s : State} (h : SeqState.ofBits s.seqState = none) :
    execSeq s = .refused .seqStateUnused := by
  unfold execSeq
  rw [h]

theorem seqIn_appends (st : SeqState) : OutcomeAppends false (seqIn st) := by
  cases st with
  | idle => exact .next idleStep_appends
  | armed => exact .next armedStep_appends
  | waitingForWindow => exact .ite (fun s => s.pgComplete = true) (.next waitStep_appends) .refused
  | measured => exact .next measuredStep_appends
  | adjusting => exact .next adjustStep_appends
  | faulted => exact .next (goto_appends .done)
  | done => exact .next doneStep_appends
  | stopped | cleanup => exact .refused

theorem execSeq_appends : OutcomeAppends false execSeq := by
  intro s
  cases hst : SeqState.ofBits s.seqState with
  | none =>
    exact ⟨[], fun o b p => by rw [execSeq_of_unused hst, execSeq_of_unused (s := withEnv o b p s) hst]; rfl⟩
  | some st =>
    obtain ⟨records, h⟩ := seqIn_appends st s
    exact ⟨records, fun o b p => by rw [execSeq_of_state hst, execSeq_of_state (s := withEnv o b p s) hst, h]⟩

/-- No operation reads the trace, the bus response or the schedule, whatever its outcome is (R12, R41). -/
theorem exec_appends (i : Instr) : OutcomeAppends (isHostAccess i) (exec i) := by
  cases i with
  | cmdNop => exact command_appends .of_quiet
  | cmdRun => exact command_appends runCmd_appends
  | cmdArm => exact command_appends armCmd_appends
  | cmdSnapshot => exact command_appends snapshotCmd_appends
  | cmdMeasure => exact command_appends measureCmd_appends
  | cmdAdjust => exact command_appends adjustCmd_appends
  | cmdReserved v => exact command_appends setIll_appends
  | refTick => exact .next refTick_appends
  | ppsRise => exact .next (ppsEvent_appends .rise)
  | ppsFall => exact .next (ppsEvent_appends .fall)
  | timeout => exact .next timeoutStrobe_appends
  | reset => exact .next .of_quiet
  | busRd size ofs => exact execBusRd_appends size ofs
  | busWr size ofs data => exact execBusWr_appends size ofs data
  | seq => exact execSeq_appends
  | seqIdle => exact seqStepIn_appends .idle idleStep_appends
  | seqArmed => exact seqStepIn_appends .armed armedStep_appends
  | seqWaiting =>
    exact .ite (fun s => s.pgComplete = true) (seqStepIn_appends .waitingForWindow waitStep_appends) .refused
  | seqMeasured => exact seqStepIn_appends .measured measuredStep_appends
  | seqAdjusting => exact seqStepIn_appends .adjusting adjustStep_appends
  | seqFaulted => exact seqStepIn_appends .faulted (goto_appends .done)
  | seqDone => exact seqStepIn_appends .done doneStep_appends

/-- Settles O56: `exec_appends` where the outcome is a next state. -/
theorem outputIsAppendedAndNeverRead : Obligations.OutputIsAppendedAndNeverRead := by
  intro i s t h
  obtain ⟨records, hx⟩ := exec_appends i s
  rw [h] at hx
  exact ⟨records, hx⟩

/-! ## Runs of presented words (R13, R55, R68) -/

/-- `s` with another schedule. -/
def withPending (p : List RawOp) (s : State) : State := { s with pending := p }

/-- The schedule passes through an operation unread: it may be exchanged before or after. -/
theorem exec_withPending (i : Instr) (p : List RawOp) (s : State) :
    exec i (withPending p s) = mapNext (withPending p) (exec i s) := by
  obtain ⟨records, h⟩ := exec_appends i s
  have hown : exec i s = mapNext _ (exec i s) := h s.out s.busResponse s.pending
  have hp : exec i (withPending p s) = mapNext _ (exec i s) := h s.out s.busResponse p
  rw [hp]
  cases hx : exec i s with
  | next t =>
    rw [hx] at hown
    injection hown with ht
    exact congrArg Host.Outcome.next (congrArg (withPending p) ht).symm
  | fault e => rfl
  | refused e => rfl

/-- A command word beyond the six commands decodes to itself, as reserved (R64). -/
theorem decodeCmd_of_not_assigned {v : CmdWord} (h : isAssignedCommand v = false) : decodeCmd v = .cmdReserved v := by
  have hv : 5 < v.toNat := by simpa [isAssignedCommand] using h
  have hne (k : Byte) (hk : k.toNat ≤ 5) (h0 : ¬cmdRsvd v ≠ 0) : cmdOpcode v ≠ k := by
    intro ho
    have hvk := congrArg BitVec.toNat (cmd_of_fields h0 ho)
    rw [BitVec.toNat_setWidth] at hvk
    omega
  unfold decodeCmd
  split
  · rfl
  · rename_i h0
    rw [if_neg, if_neg, if_neg, if_neg, if_neg, if_neg] <;> exact hne _ (by decide) h0

/-- The word of a well-formed operation decodes to it; the rows that name SEQ in one state have SEQ's word (R66). -/
theorem decode_encode {i : Instr} (h : i.wellFormed = true) : decode (encode i) = .ok i.decodedAs := by
  cases i with
  | cmdReserved v =>
    exact congrArg Except.ok (decodeCmd_of_not_assigned (by simpa [Instr.wellFormed] using h))
  | busRd size ofs =>
    have ho : offsetInWindow ofs = true := h
    simp [decode, encode, decodeOpw, decodeBusRd, ho, Instr.decodedAs]
  | busWr size ofs data =>
    have ho : offsetInWindow ofs = true := h
    simp [decode, encode, decodeOpw, decodeBusWr, ho, Instr.decodedAs]
  | cmdNop | cmdRun | cmdArm | cmdSnapshot | cmdMeasure | cmdAdjust => rfl
  | refTick | ppsRise | ppsFall | timeout | reset => rfl
  | seq | seqIdle | seqArmed | seqWaiting | seqMeasured | seqAdjusting | seqFaulted | seqDone => rfl

/-- SEQ's rows are the only ones whose word decodes to another row. -/
theorem decodedAs_of_not_seqRow {i : Instr} (h : isSeqRow i = false) : i.decodedAs = i := by
  cases i with
  | seqIdle | seqArmed | seqWaiting | seqMeasured | seqAdjusting | seqFaulted | seqDone => cases h
  | cmdNop | cmdRun | cmdArm | cmdSnapshot | cmdMeasure | cmdAdjust | cmdReserved => rfl
  | refTick | ppsRise | ppsFall | timeout | reset | busRd | busWr | seq => rfl

/-- A step over the word of a well-formed operation is the operation's meaning. -/
theorem step_of_encode {i : Instr} {s : State} (hw : i.wellFormed = true) (hr : isSeqRow i = false)
    (rest : List RawOp) : step (withPending (encode i :: rest) s) = exec i (withPending rest s) :=
  step_of_decode_ok rfl (by rw [decode_encode hw, decodedAs_of_not_seqRow hr])

/-- A run takes its first step and goes on from the next state. -/
theorem run_succ (k : Nat) (s : State) :
    Host.Core.run core (k + 1) s = andThen (step s) (Host.Core.run core k) := by
  simp only [Host.Core.run]
  change _ = andThen (core.step s) _
  cases core.step s <;> rfl

/-- A list of operations executes its first and goes on from the next state. -/
theorem runInstrs_cons (i : Instr) (is : List Instr) (s : State) :
    runInstrs (i :: is) s = andThen (exec i s) (runInstrs is) := rfl

/-- Settles O9, by induction on the list of operations: each step executes the first of them and, by
`exec_withPending`, hands on the schedule as it stands. -/
theorem runOfPresentedOperations : Obligations.RunOfPresentedOperations := by
  intro is
  induction is with
  | nil => intro s rest _; rfl
  | cons i is ih =>
    intro s rest hall
    obtain ⟨⟨hw, hr⟩, his⟩ := List.forall_mem_cons.mp hall
    have hstep : step (withPending ((i :: is).map encode ++ rest) s) =
        mapNext (withPending (is.map encode ++ rest)) (exec i s) :=
      (step_of_encode hw hr _).trans (exec_withPending ..)
    have hexec : exec i (withPending rest s) = mapNext (withPending rest) (exec i s) := exec_withPending ..
    change Host.Core.run core (is.length + 1) (withPending ((i :: is).map encode ++ rest) s) =
      runInstrs (i :: is) (withPending rest s)
    rw [run_succ, hstep, runInstrs_cons, hexec]
    cases exec i s with
    | next t => exact ih t rest his
    | fault e => rfl
    | refused e => rfl

end Sys2Proof.Proofs.Scope

/-! # State: the invariant, and who writes the result registers and the sticky bits (10_state.md)

The invariant is kept because each operation keeps it; each lemma below names only the clauses its operation touches.
Two facts carry the sequencer: inside an open iteration STATE may go anywhere (`inv_goto_open`), and it may leave one
with any index up to ITER_COUNT (`inv_goto_closed`). The result registers of R26 to R29 change, and the sticky bits of
R33 are cleared, by the few writes of `ResultWrite` alone (`execEffect_resultWrite`). -/

namespace Sys2Proof.Proofs.StateRules

open Sys2Proof.Machine Sys2Proof.Safety

/-! ## Bounds -/

theorem modulus_pos (s : State) : 0 < s.modulus := Nat.two_pow_pos _

theorem byte_le_255 (b : Byte) : b.toNat ≤ 255 := Nat.le_of_lt_succ b.isLt

/-- An 8-bit count below a limit does not wrap. -/
theorem byte_succ_toNat {a b : Byte} (h : a.toNat < b.toNat) : (a + 1).toNat = a.toNat + 1 := by
  have hb := byte_le_255 b
  rw [BitVec.toNat_add, show (1 : Byte).toNat = 1 from rfl]
  omega

/-- LOCKED = 0 in terms of the flags it joins (R32). -/
theorem locked_false_iff (s : State) : s.locked = false ↔ s.busy = false ∧ s.pgTrigEn = false := by
  rw [State.locked, Bool.or_eq_false_iff]

/-! ## Power-on and RESET (R133, R134) -/

theorem inv_powerOn (w : Fin 16) (page : Nat) (ops : List RawOp) : Inv (powerOn w page ops) where
  complete_frozen := nofun
  armed_runs := nofun
  edges_bounded := byte_le_255 _
  busy_iter := nofun
  waiting_armed := fun h => absurd (show (0 : BitVec 4) = 3 from h) (by decide)
  state_used := show 0 < 9 by decide
  count_width := modulus_pos _
  snap_width := modulus_pos _
  iter_open := fun h => absurd (show 2 ≤ 0 from h) (by decide)
  run_armed := rfl
  cause_listed := Nat.zero_le _

/-- Settles O46. -/
theorem powerOnMeetsInvariant : Obligations.PowerOnMeetsInvariant := inv_powerOn

/-- RESET leaves the power-on state of the same parameters, but for the trace and the bus response. -/
theorem inv_resetBlock (s : State) : Inv s.resetBlock :=
  { inv_powerOn s.widthLess1 s.basePage s.pending with }

/-! ## The invariant, operation by operation (R42) -/

section Invariant

variable {s : State}

/-! ### STATE and ITER -/

/-- While BUSY the index is at most ITER_COUNT. -/
theorem iter_le_of_busy (h : Inv s) (h1 : 1 ≤ s.seqState.toNat) (h7 : s.seqState.toNat ≤ 7) :
    s.iter.toNat ≤ s.iterCount.toNat :=
  h.busy_iter (s.busy_iff.mpr ⟨h1, h7⟩)

/-- Inside an open iteration STATE may become any state; WAITING_FOR_WINDOW needs a window. -/
theorem inv_goto_open (h : Inv s) (st : SeqState) (hi : s.iter.toNat < s.iterCount.toNat)
    (hw : st.bits = SeqState.waitingForWindow.bits → s.pgTrigEn = true ∨ s.pgComplete = true) : Inv (s.goto st) :=
  { h with
    busy_iter := fun _ => hi.le
    waiting_armed := hw
    state_used := st.bits_lt
    iter_open := fun _ _ => hi }

/-- Outside ARMED to ADJUSTING the index may be anything up to ITER_COUNT. -/
theorem inv_goto_closed (h : Inv s) (st : SeqState) (n : Byte) (hst : st.bits.toNat < 2 ∨ 5 < st.bits.toNat)
    (hn : n.toNat ≤ s.iterCount.toNat) : Inv { s with iter := n, seqState := st.bits } :=
  { h with
    busy_iter := fun _ => hn
    waiting_armed := fun hw => by rw [show st.bits = 3 from hw] at hst; exact absurd hst (by decide)
    state_used := st.bits_lt
    iter_open := fun h2 h5 => absurd hst (not_or.mpr ⟨Nat.not_lt.mpr h2, Nat.not_lt.mpr h5⟩) }

/-- The end of an open iteration (R97, R98). -/
theorem inv_nextIteration (h : Inv s) (hi : s.iter.toNat < s.iterCount.toNat) : Inv s.nextIteration :=
  inv_goto_closed h .idle _ (by decide) ((byte_succ_toNat hi).trans_le hi)

/-! ### Counter and gate -/

theorem inv_refTick (h : Inv s) : Inv (refTick s) := by
  have hc := (s.rcCountEdge_tally h.count_width).2
  unfold refTick
  split
  · exact h
  · unfold State.rcCountEdge at hc ⊢
    split at hc
    · rw [if_pos ‹_›]; exact { h with count_width := hc }
    · rw [if_neg ‹_›]; exact { h with count_width := hc }

/-- A successful arm opens a window of at least two edges (R78, R79). -/
theorem inv_armGate (h : Inv s) (hn : 2 ≤ s.windowN.toNat) : Inv s.armGate :=
  { h with
    complete_frozen := nofun
    armed_runs := fun _ => ⟨rfl, hn, Nat.zero_lt_of_lt hn⟩
    edges_bounded := byte_le_255 _
    waiting_armed := fun _ => .inl rfl
    count_width := modulus_pos _
    run_armed := rfl }

/-- A qualifying edge of an open window is its last and closes it, or is counted below WINDOW_N (R82). -/
theorem inv_gateEdgeResult (h : Inv s) (ht : s.pgTrigEn = true) : Inv (gateEdgeResult s) := by
  obtain ⟨hrun, hn, hlt⟩ := h.armed_runs ht
  have hcount : (if s.pgEdges + 1 = 1 then 0 else s.rcCount).toNat < s.modulus := by
    split
    · exact modulus_pos s
    · exact h.count_width
  by_cases hlast : s.pgEdges + 1 = s.windowN
  · simp only [gateEdgeResult, if_pos hlast]
    exact { h with
      complete_frozen := fun _ => ⟨rfl, rfl⟩
      armed_runs := nofun
      edges_bounded := byte_le_255 _
      waiting_armed := fun _ => .inr rfl
      count_width := hcount
      run_armed := rfl }
  · have hbelow : (s.pgEdges + 1).toNat < s.windowN.toNat :=
      lt_of_le_of_ne ((byte_succ_toNat hlt).trans_le hlt) fun he => hlast (BitVec.eq_of_toNat_eq he)
    simp only [gateEdgeResult, if_neg hlast]
    exact { h with
      armed_runs := fun _ => ⟨hrun, hn, hbelow⟩
      edges_bounded := byte_le_255 _
      count_width := hcount }

theorem inv_ppsEvent (h : Inv s) (ev : PpsEvent) : Inv (s.ppsEvent ev) := by
  rcases s.ppsEvent_cases ev with he | ⟨_, _, _, he⟩ | ⟨ht, _, _, he⟩ | ⟨ht, _, _, he⟩ <;> rw [he]
  · exact h
  · exact { h with }
  · exact inv_gateEdgeResult h ht
  · exact inv_gateEdgeResult { h with } ht

/-! ### The timeout and the sequencer steps -/

/-- TIMEOUT abandons the window and leaves the iteration (R101). -/
theorem inv_timeoutStrobe (h : Inv s) : Inv (timeoutStrobe s) := by
  rcases timeoutStrobe_cases s with he | ⟨_, hs, _, he⟩ <;> rw [he]
  · exact h
  · have hn := iter_le_of_busy h (by rw [hs]; decide) (by rw [hs]; decide)
    exact { inv_goto_closed h .faulted s.iter (by decide) hn with
      complete_frozen := fun _ => ⟨rfl, rfl⟩
      armed_runs := nofun
      waiting_armed := fun hw => absurd (show (6 : BitVec 4) = 3 from hw) (by decide)
      run_armed := rfl
      cause_listed := show 2 ≤ 3 by decide }

theorem inv_idleStep (h : Inv s) (hs : s.seqState = 1) : Inv (idleStep s) := by
  unfold idleStep
  split
  · exact inv_goto_open h .armed ‹_› (fun hw => absurd hw (by decide))
  · exact inv_goto_closed h .done s.iter (by decide) (iter_le_of_busy h (by rw [hs]; decide) (by rw [hs]; decide))

theorem inv_armedStep (h : Inv s) (hs : s.seqState = 2) : Inv (armedStep s) := by
  have hi := h.iter_open (by rw [hs]; decide) (by rw [hs]; decide)
  rcases armedStep_cases s with ⟨hn, he⟩ | ⟨_, he⟩ <;> rw [he]
  · exact inv_goto_open (inv_armGate h hn) .waitingForWindow hi fun _ => .inl rfl
  · exact { inv_goto_closed h .faulted s.iter (by decide) hi.le with cause_listed := show 3 ≤ 3 by decide }

theorem inv_waitStep (h : Inv s) (hs : s.seqState = 3) : Inv (waitStep s) :=
  have hi := h.iter_open (by rw [hs]; decide) (by rw [hs]; decide)
  { inv_goto_open h .measured hi (fun hw => absurd hw (by decide)) with snap_width := h.count_width }

theorem inv_measuredStep (h : Inv s) (hs : s.seqState = 4) : Inv (measuredStep s) := by
  have hi := h.iter_open (by rw [hs]; decide) (by rw [hs]; decide)
  rcases measuredStep_cases s with ⟨_, he⟩ | ⟨_, _, _, he⟩ | ⟨_, _, _, he⟩ | ⟨_, _, he⟩ <;> rw [he]
  · exact inv_goto_closed h .idle 1 (by decide) (Nat.one_le_of_lt hi)
  · exact { inv_goto_closed h .faulted s.iter (by decide) hi.le with cause_listed := show 1 ≤ 3 by decide }
  · exact { inv_nextIteration h hi with }
  · exact inv_goto_open h .adjusting hi (fun hw => absurd hw (by decide))

theorem inv_adjustStep (h : Inv s) (hs : s.seqState = 5) : Inv (adjustStep s) := by
  have hi := h.iter_open (by rw [hs]; decide) (by rw [hs]; decide)
  rw [adjustStep_eq]
  exact { inv_nextIteration h hi with }

theorem inv_faultedStep (h : Inv s) (hs : s.seqState = 6) : Inv (faultedStep s) :=
  inv_goto_closed h .done s.iter (by decide) (iter_le_of_busy h (by rw [hs]; decide) (by rw [hs]; decide))

theorem inv_doneStep (h : Inv s) (hs : s.seqState = 7) : Inv (doneStep s) := by
  have hn := iter_le_of_busy h (by rw [hs]; decide) (by rw [hs]; decide)
  rw [doneStep_eq]
  exact { inv_goto_closed h .cleanup s.iter (by decide) hn with }

/-! ### Host accesses -/

/-- A configuration write: WINDOW_N is bounded only while a window is open, ITER_COUNT only while BUSY, and the lock
excludes both (R51). -/
theorem inv_writeConfig (h : Inv s) (r : Reg) (v : Word) (hl : s.locked = false) : Inv (s.writeConfig r v) := by
  obtain ⟨hb, ht⟩ := (locked_false_iff s).mp hl
  cases r with
  | windowN => exact { h with armed_runs := fun hx => absurd hx (ne_true_of_eq_false ht) }
  | iterCount =>
    exact { h with
      busy_iter := fun hx => absurd hx (ne_true_of_eq_false hb)
      iter_open := fun (h2 : 2 ≤ s.seqState.toNat) (h5 : s.seqState.toNat ≤ 5) => by
        rcases s.busy_false_iff.mp hb with h0 | h8 <;> omega }
  | ctrl | target | step | scale | chan | parkFreq => exact { h with }
  | cmd | status | fault | corr | prevCorr | iter | snapRaw | snapOvf | measLo | measHi | reserved => exact h

theorem inv_hostEffect (h : Inv s) {i : Instr} {u : State} (hu : HostEffect i s u) : Inv u := by
  cases hu with
  | run => exact { inv_goto_closed h .idle 0 (by decide) (Nat.zero_le _) with cause_listed := Nat.zero_le _ }
  | arm _ _ hn => exact inv_armGate h hn
  | snapshot => exact { h with snap_width := h.count_width }
  | config r v _ hl => exact inv_writeConfig h r v hl
  | nothing | illegal | armFails | measure | adjust | adjustLoss | clear | corr => exact { h with }

/-! ### All operations -/

theorem inv_execEffect (h : Inv s) {i : Instr} {t : State} (ht : ExecEffect i s t) : Inv t := by
  cases ht with
  | host r _ hu => exact { inv_hostEffect h hu with }
  | tick => exact inv_refTick h
  | rise | fall => exact inv_ppsEvent h _
  | timeout => exact inv_timeoutStrobe h
  | reset => exact inv_resetBlock s
  | idle _ hs => exact inv_idleStep h hs
  | armed _ hs => exact inv_armedStep h hs
  | waiting _ hs => exact inv_waitStep h hs
  | measured _ hs => exact inv_measuredStep h hs
  | adjusting _ hs => exact inv_adjustStep h hs
  | faulted _ hs => exact inv_faultedStep h hs
  | done _ hs => exact inv_doneStep h hs

end Invariant

/-- Settles O47: a step is the meaning of one operation, whose effect keeps the invariant. -/
theorem stepKeepsInvariant : Obligations.StepKeepsInvariant := by
  intro s t h hst
  rcases step_cases s t hst with ⟨_, rest, _, _, _, hx⟩ | ⟨_, _, hx⟩
  · have hrest : Inv { s with pending := rest } := { h with }
    exact inv_execEffect hrest (exec_effect hx)
  · exact inv_execEffect h (exec_effect hx)

/-- The invariant holds along every execution: at power-on, and after each step. -/
theorem inv_of_reachable {s : State} (h : Reachable s) : Inv s := by
  induction h with
  | powerOn w page ops => exact inv_powerOn w page ops
  | step _ hst ih => exact stepKeepsInvariant _ _ ih hst

/-- Settles O48: the six clauses are part of the invariant. -/
theorem reachableStatesObeyInvariants : Obligations.ReachableStatesObeyInvariants :=
  fun _ h => (inv_of_reachable h).toR42

/-! ## The result registers and the sticky bits (R26 to R29, R33) -/

/-- The writes an operation can make to the snapshot, MEAS, CORR and PREV_CORR, and the ones that clear sticky bits. -/
inductive ResultWrite (i : Instr) (s : State) : State → Prop where
  | none : ResultWrite i s s
  /-- RESET (R133). -/
  | reset : i = .reset → ResultWrite i s s.resetBlock
  /-- RUN saves CORR (R92). -/
  | run : ResultWrite i s { s with prevCorr := s.corr }
  /-- SNAPSHOT (R93). -/
  | snapshot : isCommand i .cmdSnapshot 3 → s.busy = false → s.pgTrigEn = false → ResultWrite i s s.snapshot
  /-- MEASURE (R111). -/
  | measure : isCommand i .cmdMeasure 4 → s.busy = false → ResultWrite i s s.measure
  /-- ADJUST (R113). -/
  | adjust : isCommand i .cmdAdjust 5 → s.busy = false → s.meas ≠ 0 → ResultWrite i s s.adjust
  /-- A write to FAULT (R49). -/
  | clear (v : Word) : isWrite i 0x0C v → ResultWrite i s (clearSticky v s)
  /-- A write to CORR (R52). -/
  | corr (v : Word) : isWrite i 0x2C v → s.busy = false → ResultWrite i s { s with corr := v }
  /-- The WAITING_FOR_WINDOW step (R96). -/
  | waiting : i = .seq ∨ i = .seqWaiting → s.seqState = 3 → s.pgComplete = true → ResultWrite i s s.snapshot.measure
  /-- The ADJUSTING step (R98). -/
  | adjusting : i = .seq ∨ i = .seqAdjusting → s.seqState = 5 → ResultWrite i s s.adjust

/-- `t` has every sticky bit that `u` has. The defaults hold where the update does not mention the bit. -/
structure KeepsSticky (u t : State) : Prop where
  slf : u.slf = true → t.slf = true := by exact id
  stf : u.stf = true → t.stf = true := by exact id
  hif : u.hif = true → t.hif = true := by exact id
  ill : u.ill = true → t.ill = true := by exact id

/-- `t` holds the results of `u`, and every sticky bit that `u` has. -/
structure KeepsResults (u t : State) : Prop extends KeepsSticky u t where
  snapRaw : t.snapRaw = u.snapRaw := by rfl
  snapOvf : t.snapOvf = u.snapOvf := by rfl
  meas : t.meas = u.meas := by rfl
  corr : t.corr = u.corr := by rfl
  prevCorr : t.prevCorr = u.prevCorr := by rfl

theorem refTick_keepsResults (s : State) : KeepsResults s (refTick s) := by
  unfold refTick State.rcCountEdge
  split
  · exact {}
  · split <;> exact {}

theorem ppsEvent_keepsResults (s : State) (ev : PpsEvent) : KeepsResults s (s.ppsEvent ev) := by
  rcases s.ppsEvent_cases ev with h | ⟨_, _, _, h⟩ | ⟨_, _, _, h⟩ | ⟨_, _, _, h⟩ <;> rw [h] <;> exact {}

theorem timeoutStrobe_keepsResults (s : State) : KeepsResults s (timeoutStrobe s) := by
  rcases timeoutStrobe_cases s with h | ⟨_, _, _, h⟩ <;> rw [h]
  · exact {}
  · exact { stf := fun _ => rfl }

theorem idleStep_keepsResults (s : State) : KeepsResults s (idleStep s) := by
  unfold idleStep
  split <;> exact {}

theorem armedStep_keepsResults (s : State) : KeepsResults s (armedStep s) := by
  rcases armedStep_cases s with ⟨_, h⟩ | ⟨_, h⟩ <;> rw [h]
  · exact {}
  · exact { hif := fun _ => rfl }

theorem measuredStep_keepsResults (s : State) : KeepsResults s (measuredStep s) := by
  rcases measuredStep_cases s with ⟨_, h⟩ | ⟨_, _, _, h⟩ | ⟨_, _, _, h⟩ | ⟨_, _, h⟩ <;> rw [h]
  · exact {}
  · exact { slf := fun _ => rfl }
  · exact { slf := fun _ => rfl }
  · exact {}

theorem adjustStep_keepsResults (s : State) : KeepsResults s.adjust (adjustStep s) := by
  rw [adjustStep_eq]; exact {}

theorem doneStep_keepsResults (s : State) : KeepsResults s (doneStep s) := by
  rw [doneStep_eq]; exact {}

theorem writeConfig_keepsResults (r : Reg) (v : Word) (s : State) : KeepsResults s (s.writeConfig r v) := by
  cases r <;> exact {}

/-- What a host access can do to the results and the sticky bits. -/
theorem hostEffect_resultWrite {i : Instr} {s t : State} (h : HostEffect i s t) :
    ∃ u, ResultWrite i s u ∧ KeepsResults u t := by
  cases h with
  | nothing | arm => exact ⟨_, .none, {}⟩
  | illegal => exact ⟨_, .none, { ill := fun _ => rfl }⟩
  | armFails => exact ⟨_, .none, { hif := fun _ => rfl }⟩
  | adjustLoss => exact ⟨_, .none, { slf := fun _ => rfl }⟩
  | config r v => exact ⟨_, .none, writeConfig_keepsResults r v s⟩
  | run => exact ⟨_, .run, {}⟩
  | snapshot hi hb ht => exact ⟨_, .snapshot hi hb ht, {}⟩
  | measure hi hb => exact ⟨_, .measure hi hb, {}⟩
  | adjust hi hb hm => exact ⟨_, .adjust hi hb hm, {}⟩
  | clear v hi => exact ⟨_, .clear v hi, {}⟩
  | corr v hi hb => exact ⟨_, .corr v hi hb, {}⟩

/-- What an operation can do to the results and the sticky bits. -/
theorem execEffect_resultWrite {i : Instr} {s t : State} (h : ExecEffect i s t) :
    ∃ u, ResultWrite i s u ∧ KeepsResults u t := by
  cases h with
  | host r _ hu =>
    obtain ⟨u, hw, hk⟩ := hostEffect_resultWrite hu
    exact ⟨u, hw, { hk with }⟩
  | tick => exact ⟨_, .none, refTick_keepsResults s⟩
  | rise | fall => exact ⟨_, .none, ppsEvent_keepsResults s _⟩
  | timeout => exact ⟨_, .none, timeoutStrobe_keepsResults s⟩
  | reset hi => exact ⟨_, .reset hi, {}⟩
  | idle => exact ⟨_, .none, idleStep_keepsResults s⟩
  | armed => exact ⟨_, .none, armedStep_keepsResults s⟩
  | waiting hi hs hc => exact ⟨_, .waiting hi hs hc, {}⟩
  | measured => exact ⟨_, .none, measuredStep_keepsResults s⟩
  | adjusting hi hs => exact ⟨_, .adjusting hi hs, adjustStep_keepsResults s⟩
  | faulted => exact ⟨_, .none, {}⟩
  | done => exact ⟨_, .none, doneStep_keepsResults s⟩

/-- Settles O52: of the result writes only RESET, the two adjustments and the host's write reach CORR. -/
theorem corrChangesOnlyBy : Obligations.CorrChangesOnlyBy := by
  intro i s t h hne
  obtain ⟨u, hw, hk⟩ := execEffect_resultWrite (exec_effect h)
  rw [hk.corr] at hne ⊢
  rw [hk.prevCorr]
  cases hw with
  | reset hi => exact .inl hi
  | adjust hi hb hm => exact .inr (.inl ⟨hi, hb, hm, rfl⟩)
  | adjusting hi hs => exact .inr (.inr (.inl ⟨hi, hs, rfl⟩))
  | corr v hi hb => exact .inr (.inr (.inr ⟨hi, hb⟩))
  | none | run | snapshot | measure | clear | waiting => exact absurd rfl hne

/-- A result write that changes the snapshot (R26). -/
theorem ResultWrite.snapshot_changed {i : Instr} {s u : State} (hw : ResultWrite i s u)
    (hne : u.snapRaw ≠ s.snapRaw ∨ u.snapOvf ≠ s.snapOvf) :
    i = .reset ∨ (isCommand i .cmdSnapshot 3 ∧ s.busy = false ∧ s.pgTrigEn = false) ∨
      ((i = .seq ∨ i = .seqWaiting) ∧ s.seqState = 3 ∧ s.pgComplete = true) := by
  cases hw with
  | reset hi => exact .inl hi
  | snapshot hi hb ht => exact .inr (.inl ⟨hi, hb, ht⟩)
  | waiting hi hs hc => exact .inr (.inr ⟨hi, hs, hc⟩)
  | none | run | measure | adjust | clear | corr | adjusting => exact hne.elim (absurd rfl) (absurd rfl)

/-- A result write that changes MEAS (R27). -/
theorem ResultWrite.meas_changed {i : Instr} {s u : State} (hw : ResultWrite i s u) (hne : u.meas ≠ s.meas) :
    i = .reset ∨ (isCommand i .cmdMeasure 4 ∧ s.busy = false) ∨
      ((i = .seq ∨ i = .seqWaiting) ∧ s.seqState = 3 ∧ s.pgComplete = true) := by
  cases hw with
  | reset hi => exact .inl hi
  | measure hi hb => exact .inr (.inl ⟨hi, hb⟩)
  | waiting hi hs hc => exact .inr (.inr ⟨hi, hs, hc⟩)
  | none | run | snapshot | adjust | clear | corr | adjusting => exact absurd rfl hne

/-- Settles O53: the result writes that reach the snapshot, and those that reach MEAS. -/
theorem measurementChangesOnlyBy : Obligations.MeasurementChangesOnlyBy := by
  intro i s t h
  obtain ⟨u, hw, hk⟩ := execEffect_resultWrite (exec_effect h)
  rw [hk.snapRaw, hk.snapOvf, hk.meas]
  exact ⟨hw.snapshot_changed, hw.meas_changed⟩

/-- Clearing no bit leaves FAULT as it is (R49). -/
theorem clearSticky_zero (s : State) : clearSticky 0 s = s := by simp [clearSticky]

/-- A result write other than RESET clears sticky bits as a write to FAULT of some `v` does, and `v` is 0 unless it is
that write (R33). -/
theorem ResultWrite.clears {i : Instr} {s u : State} (hw : ResultWrite i s u) (hr : i ≠ .reset) :
    ∃ v : Word, (v = 0 ∨ isWrite i 0x0C v) ∧ KeepsSticky (clearSticky v s) u := by
  cases hw with
  | reset hi => exact absurd hi hr
  | clear v hi => exact ⟨v, .inr hi, {}⟩
  | none | run | snapshot | measure | adjust | corr | waiting | adjusting =>
    exact ⟨0, .inl rfl, by rw [clearSticky_zero]; exact {}⟩

/-- A flag that falls although it would stay without a 1 in bit `k` of `v` shows that `v` was written, with that 1. -/
theorem write_of_cleared {i : Instr} {v : Word} {k : Nat} {b c : Bool} (hv : v = 0 ∨ isWrite i 0x0C v)
    (hstay : (b && !v.getLsbD k) = true → c = true) (hb : b = true) (hc : c = false) :
    ∃ v : Word, isWrite i 0x0C v ∧ v.getLsbD k = true := by
  have hbit : v.getLsbD k = true := by
    cases hn : v.getLsbD k
    · exact absurd (hstay (by rw [hb, hn]; rfl)) (ne_true_of_eq_false hc)
    · rfl
  rcases hv with rfl | hi
  · exact absurd hbit (by simp)
  · exact ⟨v, hi, hbit⟩

/-- Settles O54: the four bits of `ResultWrite.clears`. -/
theorem stickyBitsStay : Obligations.StickyBitsStay := by
  intro i s t h hr
  obtain ⟨u, hw, hk⟩ := execEffect_resultWrite (exec_effect h)
  obtain ⟨v, hv, hc⟩ := hw.clears hr
  exact ⟨write_of_cleared hv fun hb => hk.slf (hc.slf hb), write_of_cleared hv fun hb => hk.stf (hc.stf hb),
    write_of_cleared hv fun hb => hk.hif (hc.hif hb), write_of_cleared hv fun hb => hk.ill (hc.ill hb)⟩

end Sys2Proof.Proofs.StateRules

/-! # The host window and the configuration lock (20_memory.md)

A bus access has one of three outcomes by its size and offset: it is refused, it ends in a bus error, or it reaches the
register at the offset. What a read returns is read off the register's bits as a number (`readReg_toNat`); what a write
does is one lemma per kind of register. The lock over all operations is the frame `execEffect_sameConfig`. -/

namespace Sys2Proof.Proofs.Memory

open Sys2Proof.Machine Sys2Proof.Safety

/-! ## The configuration lock over all operations (R51) -/

/-- Covers by conversion every update of `s` that writes no configuration register. -/
theorem sameConfig_refl (s : State) : SameConfig s s := ⟨rfl, rfl, rfl, rfl, rfl, rfl, rfl, rfl, rfl⟩

theorem refTick_sameConfig (s : State) : SameConfig s (refTick s) := by
  unfold refTick State.rcCountEdge
  split
  · exact sameConfig_refl s
  · split <;> exact sameConfig_refl s

theorem ppsEvent_sameConfig (s : State) (ev : PpsEvent) : SameConfig s (s.ppsEvent ev) := by
  rcases s.ppsEvent_cases ev with h | ⟨_, _, _, h⟩ | ⟨_, _, _, h⟩ | ⟨_, _, _, h⟩ <;> rw [h] <;> exact sameConfig_refl s

theorem timeoutStrobe_sameConfig (s : State) : SameConfig s (timeoutStrobe s) := by
  rcases timeoutStrobe_cases s with h | ⟨_, _, _, h⟩ <;> rw [h] <;> exact sameConfig_refl s

theorem idleStep_sameConfig (s : State) : SameConfig s (idleStep s) := by
  unfold idleStep
  split <;> exact sameConfig_refl s

theorem armedStep_sameConfig (s : State) : SameConfig s (armedStep s) := by
  rcases armedStep_cases s with ⟨_, h⟩ | ⟨_, h⟩ <;> rw [h] <;> exact sameConfig_refl s

theorem measuredStep_sameConfig (s : State) : SameConfig s (measuredStep s) := by
  rcases measuredStep_cases s with ⟨_, h⟩ | ⟨_, _, _, h⟩ | ⟨_, _, _, h⟩ | ⟨_, _, h⟩ <;> rw [h] <;>
    exact sameConfig_refl s

theorem adjustStep_sameConfig (s : State) : SameConfig s (adjustStep s) := by
  rw [adjustStep_eq]; exact sameConfig_refl s

theorem doneStep_sameConfig (s : State) : SameConfig s (doneStep s) := by
  rw [doneStep_eq]; exact sameConfig_refl s

/-- Of the host accesses only an unlocked configuration write reaches a configuration register (R50, R51). -/
theorem hostEffect_sameConfig {i : Instr} {s t : State} (hl : s.locked = true) (h : HostEffect i s t) :
    SameConfig s t := by
  cases h with
  | config _ _ _ hf => exact absurd hl (ne_true_of_eq_false hf)
  | nothing | illegal | run | arm | armFails | snapshot | measure | adjust | adjustLoss | clear | corr =>
    exact sameConfig_refl s

/-- Only RESET (R133) and the host write the configuration, and the lock shuts the host out. -/
theorem execEffect_sameConfig {i : Instr} {s t : State} (hl : s.locked = true) (hr : i ≠ .reset)
    (h : ExecEffect i s t) : SameConfig s t := by
  cases h with
  | host _ _ hu =>
    have hc := hostEffect_sameConfig hl hu
    exact hc
  | tick => exact refTick_sameConfig s
  | rise | fall => exact ppsEvent_sameConfig s _
  | timeout => exact timeoutStrobe_sameConfig s
  | reset hi => exact absurd hi hr
  | idle => exact idleStep_sameConfig s
  | armed => exact armedStep_sameConfig s
  | measured => exact measuredStep_sameConfig s
  | adjusting => exact adjustStep_sameConfig s
  | done => exact doneStep_sameConfig s
  | waiting | faulted => exact sameConfig_refl s

/-- Settles O50: `execEffect_sameConfig`, since a next state is the effect of the operation. -/
theorem lockedConfigurationIsStatic : Obligations.LockedConfigurationIsStatic :=
  fun _ _ _ hl hr h => execEffect_sameConfig hl hr (exec_effect h)

/-! ## The outcomes of a bus access (R43 to R46) -/

section Access

variable {s : State} {size ofs : Byte}

/-- Outside the window (R44). -/
theorem exec_outside (h : 0x80 ≤ ofs.toNat) (data : Word) :
    exec (.busRd size ofs) s = .refused .accessOutsideWindow ∧
      exec (.busWr size ofs data) s = .refused .accessOutsideWindow :=
  ⟨(execBusRd_eq size ofs s).trans (if_pos h), (execBusWr_eq size ofs data s).trans (if_pos h)⟩

/-- Of a size other than 4, or misaligned (R45, R46). -/
theorem exec_busError (hw : ofs.toNat ≤ 0x7F) (he : size ≠ 4 ∨ ofs.toNat % 4 ≠ 0) (data : Word) :
    exec (.busRd size ofs) s = .next (s.respond .busError) ∧
      exec (.busWr size ofs data) s = .next (s.respond .busError) := by
  have hin : ¬128 ≤ ofs.toNat := by omega
  exact ⟨(execBusRd_eq size ofs s).trans ((if_neg hin).trans (if_pos he)),
    (execBusWr_eq size ofs data s).trans ((if_neg hin).trans (if_pos he))⟩

/-- An aligned 4-byte read (R48). -/
theorem exec_read (hw : ofs.toNat ≤ 0x7F) (ha : ofs.toNat % 4 = 0) :
    exec (.busRd 4 ofs) s = .next (s.respond (.readData (s.readReg (regAt ofs.toNat)))) :=
  (execBusRd_eq 4 ofs s).trans ((if_neg (by omega)).trans (if_neg (by simp [ha])))

/-- An aligned 4-byte write (R49). -/
theorem exec_write (hw : ofs.toNat ≤ 0x7F) (ha : ofs.toNat % 4 = 0) (v : Word) :
    exec (.busWr 4 ofs v) s = .next ((writeReg (regAt ofs.toNat) v s).respond .writeOk) :=
  (execBusWr_eq 4 ofs v s).trans ((if_neg (by omega)).trans (if_neg (by simp [ha])))

end Access

/-- Settles O37. -/
theorem busErrorsChangeNothing : Obligations.BusErrorsChangeNothing :=
  fun _ _ _ data hw he => exec_busError hw he data

/-- Settles O38. -/
theorem accessOutsideTheWindow : Obligations.AccessOutsideTheWindow :=
  fun _ _ _ data h => exec_outside h data

/-! ## Host words as numbers (R34, R39)

The packed views join their fields by shifting and OR; fields that do not overlap add up. -/

/-- A field placed above the `k` bits that the rest of the word fills. -/
theorem field_or_toNat {w k : Nat} (a : BitVec w) {y : Word} (hwk : w + k ≤ 32) (hy : y.toNat < 2 ^ k) :
    (a.setWidth 32 <<< k ||| y).toNat = a.toNat * 2 ^ k + y.toNat := by
  have hfit : a.toNat * 2 ^ k < 2 ^ 32 := by
    calc a.toNat * 2 ^ k < 2 ^ w * 2 ^ k := Nat.mul_lt_mul_of_pos_right a.isLt (Nat.two_pow_pos k)
      _ = 2 ^ (w + k) := (Nat.pow_add 2 w k).symm
      _ ≤ 2 ^ 32 := Nat.pow_le_pow_right (by decide) hwk
  rw [BitVec.toNat_or, BitVec.toNat_shiftLeft, BitVec.toNat_setWidth_of_le (by omega), Nat.shiftLeft_eq,
    Nat.mod_eq_of_lt hfit, ← Nat.shiftLeft_eq, Nat.shiftLeft_add_eq_or_of_lt hy]

theorem ofBool_toNat (b : Bool) : (BitVec.ofBool b).toNat = bit b := by cases b <;> rfl

theorem bit_le_one (b : Bool) : bit b ≤ 1 := by cases b <;> decide

/-- A flag placed above the `k` bits that the rest of the word fills; together they fill `k + 1` bits. -/
theorem flagBit_or_toNat {k : Nat} (b : Bool) {y : Word} (hk : k < 32) (hy : y.toNat < 2 ^ k) :
    (flagBit b k ||| y).toNat = bit b * 2 ^ k + y.toNat := by
  rw [flagBit, field_or_toNat _ (by omega) hy, ofBool_toNat]

theorem flagBit_or_lt {k : Nat} (b : Bool) {y : Word} (hk : k < 32) (hy : y.toNat < 2 ^ k) :
    (flagBit b k ||| y).toNat < 2 ^ (k + 1) := by
  have hb : bit b * 2 ^ k ≤ 1 * 2 ^ k := Nat.mul_le_mul_right _ (bit_le_one b)
  rw [flagBit_or_toNat b hk hy, Nat.pow_succ]
  omega

/-- BUSY lists the seven states of a cycle (R32). -/
theorem busy_eq_mem (s : State) : s.busy = decide (s.seqState.toNat ∈ [1, 2, 3, 4, 5, 6, 7]) := by
  rw [Bool.eq_iff_iff, s.busy_iff, decide_eq_true_iff]
  simp only [List.mem_cons, List.not_mem_nil, or_false]
  omega

/-- STATUS as a number (R39). -/
theorem statusWord_toNat (s : State) : s.statusWord.toNat =
    s.pgEdges.toNat * 65536 + bit s.pgToggle * 256 + bit s.rcRun * 128 + bit s.pgTrigEn * 64 +
      bit s.pgComplete * 32 + bit s.busy * 16 + s.seqState.toNat := by
  have hst : (s.seqState.setWidth 32).toNat = s.seqState.toNat := BitVec.toNat_setWidth_of_le (by decide)
  have h4 : (s.seqState.setWidth 32).toNat < 2 ^ 4 := hst ▸ s.seqState.isLt
  have h5 := flagBit_or_lt s.busy (by decide) h4
  have h6 := flagBit_or_lt s.pgComplete (by decide) h5
  have h7 := flagBit_or_lt s.pgTrigEn (by decide) h6
  have h8 := flagBit_or_lt s.rcRun (by decide) h7
  have h9 := flagBit_or_lt s.pgToggle (by decide) h8
  simp only [State.statusWord, BitVec.or_assoc]
  rw [field_or_toNat _ (by decide) (h9.trans (by decide)), flagBit_or_toNat _ (by decide) h8,
    flagBit_or_toNat _ (by decide) h7, flagBit_or_toNat _ (by decide) h6, flagBit_or_toNat _ (by decide) h5,
    flagBit_or_toNat _ (by decide) h4, hst]
  omega

/-- FAULT as a number (R34, R48). -/
theorem faultWord_toNat (s : State) : s.faultWord.toNat =
    s.abortCause.toNat * 16 + bit s.ill * 8 + bit s.hif * 4 + bit s.stf * 2 + bit s.slf := by
  have hslf : (flagBit s.slf 0).toNat = bit s.slf := by cases s.slf <;> rfl
  have h1 : (flagBit s.slf 0).toNat < 2 ^ 1 := hslf ▸ Nat.lt_succ_of_le (bit_le_one s.slf)
  have h2 := flagBit_or_lt s.stf (by decide) h1
  have h3 := flagBit_or_lt s.hif (by decide) h2
  have h4 := flagBit_or_lt s.ill (by decide) h3
  simp only [State.faultWord, BitVec.or_assoc]
  rw [field_or_toNat _ (by decide) h4, flagBit_or_toNat _ (by decide) h3, flagBit_or_toNat _ (by decide) h2,
    flagBit_or_toNat _ (by decide) h1, hslf]
  omega

/-- CHAN as a number (R38). -/
theorem readReg_chan_toNat (s : State) :
    (s.readReg .chan).toNat = s.parkCh.toNat * 256 + s.calCh.toNat := by
  have hcal : (s.calCh.setWidth 32).toNat = s.calCh.toNat := BitVec.toNat_setWidth_of_le (by decide)
  have h8 : (s.calCh.setWidth 32).toNat < 2 ^ 8 := hcal ▸ s.calCh.isLt
  rw [State.readReg, field_or_toNat _ (by decide) h8, hcal]
  rfl

/-- The upper half of MEAS (R48). -/
theorem readReg_measHi_toNat (s : State) : (s.readReg .measHi).toNat = s.meas.toNat / 2 ^ 32 := by
  have hm := s.meas.isLt
  rw [State.readReg, BitVec.extractLsb'_toNat, Nat.shiftRight_eq_div_pow]
  omega

/-! ## Reads (R48) -/

/-- The listed offsets are aligned and in the window (R34). -/
theorem readings_offset (s : State) : ∀ p ∈ readings s, p.1 ≤ 0x7F ∧ p.1 % 4 = 0 := by
  have hofs : ∀ o ∈ (readings s).map Prod.fst, o ≤ 0x7F ∧ o % 4 = 0 := by
    change ∀ o ∈ [0x00, 0x04, 0x08, 0x0C, 0x10, 0x14, 0x18, 0x1C, 0x20, 0x24, 0x28, 0x2C, 0x30, 0x34, 0x38, 0x3C,
      0x40, 0x44], _
    decide
  exact fun p hp => hofs _ (List.mem_map_of_mem hp)

/-- What a read of each listed offset returns, as a number (R48). -/
theorem readReg_toNat (s : State) : ∀ p ∈ readings s, (s.readReg (regAt p.1)).toNat = p.2 := by
  have narrow {w : Nat} (a : BitVec w) (hw : w ≤ 32) : (a.setWidth 32).toNat = a.toNat :=
    BitVec.toNat_setWidth_of_le hw
  unfold readings
  rw [← busy_eq_mem]
  simp only [List.forall_mem_cons]
  exact ⟨narrow s.ctrl (by decide), rfl, statusWord_toNat s, faultWord_toNat s, rfl, narrow s.stepSize (by decide),
    narrow s.iterCount (by decide), narrow s.windowN (by decide), narrow s.scale (by decide), readReg_chan_toNat s, rfl,
    rfl, rfl, narrow s.iter (by decide), narrow s.snapRaw (by decide), rfl, BitVec.extractLsb'_toNat ..,
    readReg_measHi_toNat s, List.forall_mem_nil _⟩

/-- The offsets above MEAS_HI are reserved (R34). -/
theorem regAt_reserved {o : Nat} (h : 0x48 ≤ o) : regAt o = .reserved := by
  unfold regAt
  iterate 18 rw [if_neg (by omega)]

/-- Settles O36. -/
theorem busReadReturnsTheRegister : Obligations.BusReadReturnsTheRegister := by
  refine fun s => ⟨fun p hp => ?_, fun ofs h48 h7C ha => ?_, fun size ofs hw he => (exec_busError hw he 0).1⟩
  · obtain ⟨hw, ha⟩ := readings_offset s p hp
    have hp1 : (BitVec.ofNat 8 p.1).toNat = p.1 := Nat.mod_eq_of_lt (by omega)
    refine ⟨s.readReg (regAt p.1), readReg_toNat s p hp, ?_⟩
    rw [exec_read (hp1.symm ▸ hw) (hp1.symm ▸ ha), hp1]
    rfl
  · rw [exec_read (by omega) ha, regAt_reserved h48]
    rfl

/-! ## Writes (R49 to R52) -/

/-- The offsets of the configuration registers (R51). -/
def configOffsets : List Nat := [0x00, 0x10, 0x14, 0x18, 0x1C, 0x20, 0x24, 0x28]

theorem regAt_configOffsets : ∀ o ∈ configOffsets, (regAt o).isConfig = true ∧ o ≤ 0x7F ∧ o % 4 = 0 := by decide

/-- A write to a configuration register looks at the lock alone (R50, R51). -/
theorem writeReg_config {r : Reg} (hr : r.isConfig = true) (v : Word) (s : State) :
    writeReg r v s = if s.locked then s.setIll else s.writeConfig r v := by
  cases r with
  | ctrl | target | step | iterCount | windowN | scale | chan | parkFreq => rfl
  | cmd | status | fault | corr | prevCorr | iter | snapRaw | snapOvf | measLo | measHi | reserved => cases hr

/-- A bus write to a configuration offset (R50, R51). -/
theorem exec_configWrite {ofs : Byte} (ho : ofs.toNat ∈ configOffsets) (v : Word) (s : State) :
    exec (.busWr 4 ofs v) s =
      .next ((if s.locked then s.setIll else s.writeConfig (regAt ofs.toNat) v).respond .writeOk) := by
  obtain ⟨hr, hw, ha⟩ := regAt_configOffsets _ ho
  rw [exec_write hw ha, writeReg_config hr]

/-- Settles O39: the eight rows of `State.writeConfig`. -/
theorem configWriteUnlocked : Obligations.ConfigWriteUnlocked := by
  intro s v hl
  have write (ofs : Byte) (ho : ofs.toNat ∈ configOffsets) :
      exec (.busWr 4 ofs v) s = .next ((s.writeConfig (regAt ofs.toNat) v).respond .writeOk) := by
    rw [exec_configWrite ho, if_neg (ne_true_of_eq_false hl)]
  exact ⟨write 0x00 (by decide), write 0x10 (by decide), write 0x14 (by decide), write 0x18 (by decide),
    write 0x1C (by decide), write 0x20 (by decide), write 0x24 (by decide), write 0x28 (by decide)⟩

/-- Settles O40. -/
theorem configWriteLocked : Obligations.ConfigWriteLocked := by
  intro s v ofs hl ho
  rw [exec_configWrite ho, if_pos hl]
  rfl

/-- Settles O41. -/
theorem corrWrite : Obligations.CorrWrite := by
  intro s v
  have hx : exec (.busWr 4 0x2C v) s = .next ((if s.busy then s.setIll else { s with corr := v }).respond .writeOk) :=
    exec_write (by decide) (by decide) v
  rw [hx]
  cases s.busy <;> rfl

/-- Settles O42: a 1 clears its bit, a 0 leaves it. -/
theorem faultWriteOneToClear : Obligations.FaultWriteOneToClear := by
  intro s v
  have hx : exec (.busWr 4 0x0C v) s = .next ((clearSticky v s).respond .writeOk) :=
    exec_write (by decide) (by decide) v
  have hbit (b c : Bool) : (b && !c) = if c then false else b := by cases c <;> simp
  rw [hx]
  simp only [clearSticky, State.respond, hbit]

/-- A write to STATUS or to any offset above CORR has no effect on the registers (R49, R44). -/
theorem writeReg_ignored {o : Nat} (ho : o = 0x08 ∨ 0x30 ≤ o) (v : Word) (s : State) : writeReg (regAt o) v s = s := by
  rcases ho with rfl | h30
  · rfl
  rcases Nat.lt_or_ge o 0x48 with h48 | h48
  · interval_cases o <;> rfl
  · rw [regAt_reserved h48]
    rfl

/-- Settles O43. -/
theorem readOnlyWritesAreIgnored : Obligations.ReadOnlyWritesAreIgnored := by
  intro s v ofs ha ho
  rw [exec_write (by omega) ha, writeReg_ignored (by omega)]
  rfl

end Sys2Proof.Proofs.Memory

/-! # The encodings: command words, operation words and where SEQ has a step (30_encoding.md)

The relation `IsWordOf i r` says that the word `r` is the word of the operation `i`. The decoder finds exactly this
relation (`decode_eq_ok_iff`), so which words decode, and to what, is read off the encoder. SETTLE stops because each
enabled sequencer step lowers `stepsLeft`. -/

namespace Sys2Proof.Proofs.Encoding

open Sys2Proof.Machine Sys2Proof.Safety Sys2Proof.Proofs.Scope Sys2Proof.Proofs.Memory

/-! ## Fields and command words (R61 to R64) -/

/-- An operation word determines its four fields (R62). -/
theorem opwOf_inj {cls size ofs cls' size' ofs' : Byte} {data data' : Word} :
    opwOf cls size ofs data = opwOf cls' size' ofs' data' ↔
      cls = cls' ∧ size = size' ∧ ofs = ofs' ∧ data = data' := by
  refine ⟨fun h => ?_, fun ⟨hc, hs, ho, hd⟩ => by rw [hc, hs, ho, hd]⟩
  have hc := congrArg opwClass h
  have hs := congrArg opwSize h
  have ho := congrArg opwOfs h
  have hd := congrArg opwData h
  simp only [opwClass_opwOf, opwSize_opwOf, opwOfs_opwOf, opwData_opwOf] at hc hs ho hd
  exact ⟨hc, hs, ho, hd⟩

theorem offsetInWindow_iff (ofs : Byte) : offsetInWindow ofs = true ↔ ofs.toNat ≤ 0x7F :=
  decide_eq_true_iff.trans Nat.lt_succ_iff

/-- The words of the six commands (R63). -/
def assignedWords : List CmdWord := [0, 1, 2, 3, 4, 5]

theorem isAssignedCommand_of_five_lt {v : CmdWord} (h : 5 < v.toNat) : isAssignedCommand v = false :=
  decide_eq_false (Nat.not_le_of_lt h)

/-- A word is one of the six commands or above them (R63, R64). -/
theorem mem_assignedWords_or_five_lt (v : CmdWord) : v ∈ assignedWords ∨ 5 < v.toNat := by
  rcases Nat.lt_or_ge 5 v.toNat with h | h
  · exact .inr h
  · have hv : v = BitVec.ofNat 32 v.toNat := by simp
    rw [hv]
    left
    interval_cases v.toNat <;> decide

theorem decodeCmd_of_five_lt {v : CmdWord} (h : 5 < v.toNat) : decodeCmd v = .cmdReserved v :=
  decodeCmd_of_not_assigned (isAssignedCommand_of_five_lt h)

/-- A reserved command sets FAULT.ILL and answers the write (R64, R118). -/
theorem exec_cmdReserved (v : CmdWord) (s : State) :
    exec (.cmdReserved v) s = .next { s with ill := true, busResponse := some .writeOk } := rfl

/-- Settles O23: each of the two conditions makes the word exceed 5, the largest command. -/
theorem reservedCommand : Obligations.ReservedCommand := by
  intro v hv
  have h5 : 5 < v.toNat := by omega
  exact ⟨congrArg Except.ok (decodeCmd_of_five_lt h5), exec_cmdReserved v⟩

/-! ## The decoder finds the encoder's words (R61 to R66) -/

/-- `r` is the word of the well-formed operation `i`, which is no row that names SEQ in one state. -/
structure IsWordOf (i : Instr) (r : RawOp) : Prop where
  wf : i.wellFormed = true
  noRow : isSeqRow i = false
  word : encode i = r

theorem decodeCmd_isWordOf (v : CmdWord) : IsWordOf (decodeCmd v) (.cmd v) := by
  rcases mem_assignedWords_or_five_lt v with hv | h5
  · revert v
    simp only [assignedWords, List.forall_mem_cons]
    exact ⟨⟨rfl, rfl, rfl⟩, ⟨rfl, rfl, rfl⟩, ⟨rfl, rfl, rfl⟩, ⟨rfl, rfl, rfl⟩, ⟨rfl, rfl, rfl⟩, ⟨rfl, rfl, rfl⟩,
      List.forall_mem_nil _⟩
  · rw [decodeCmd_of_five_lt h5]
    exact ⟨congrArg Bool.not (isAssignedCommand_of_five_lt h5), rfl, rfl⟩

/-- A word with the fields of an operation without operands (R62). -/
theorem decodeBare_isWordOf {w : OpWord} {cls : Byte} {i j : Instr} (hj : IsWordOf j (.opw (opwOf cls 0 0 0)))
    (hc : opwClass w = cls) (h : decodeBare w j = .ok i) : IsWordOf i (.opw w) := by
  obtain ⟨rfl, hs, ho, hd⟩ := decodeBare_ok h
  have hw := opwOf_fields w
  rw [hc, hs, ho, hd] at hw
  exact hw ▸ hj

theorem decodeBusRd_isWordOf {w : OpWord} {i : Instr} (hc : opwClass w = 0x10) (h : decodeBusRd w = .ok i) :
    IsWordOf i (.opw w) := by
  obtain ⟨rfl, ho, hd⟩ := decodeBusRd_ok h
  exact ⟨ho, rfl, by rw [encode, ← hc, ← hd, opwOf_fields]⟩

theorem decodeBusWr_isWordOf {w : OpWord} {i : Instr} (hc : opwClass w = 0x11) (h : decodeBusWr w = .ok i) :
    IsWordOf i (.opw w) := by
  obtain ⟨rfl, ho⟩ := decodeBusWr_ok h
  exact ⟨ho, rfl, by rw [encode, ← hc, opwOf_fields]⟩

/-- Each class of R65 in turn: the decoder reads every field of the word or requires that it is 0. -/
theorem decodeOpw_isWordOf {w : OpWord} {i : Instr} (h : decodeOpw w = .ok i) : IsWordOf i (.opw w) := by
  unfold decodeOpw at h
  split_ifs at h with h1 h2 h3 h4 h5 hrd hwr hseq
  · exact decodeBare_isWordOf ⟨rfl, rfl, rfl⟩ h1 h
  · exact decodeBare_isWordOf ⟨rfl, rfl, rfl⟩ h2 h
  · exact decodeBare_isWordOf ⟨rfl, rfl, rfl⟩ h3 h
  · exact decodeBare_isWordOf ⟨rfl, rfl, rfl⟩ h4 h
  · exact decodeBare_isWordOf ⟨rfl, rfl, rfl⟩ h5 h
  · exact decodeBusRd_isWordOf hrd h
  · exact decodeBusWr_isWordOf hwr h
  · exact decodeBare_isWordOf ⟨rfl, rfl, rfl⟩ hseq h

/-- The decoder and the encoder are one relation between operations and words. -/
theorem decode_eq_ok_iff {r : RawOp} {i : Instr} : decode r = .ok i ↔ IsWordOf i r := by
  constructor
  · intro h
    cases r with
    | cmd v =>
      cases h
      exact decodeCmd_isWordOf v
    | opw w => exact decodeOpw_isWordOf h
  · rintro ⟨hw, hr, rfl⟩
    rw [decode_encode hw, decodedAs_of_not_seqRow hr]

/-- The rows that name SEQ in one state have SEQ's word (R66). -/
theorem encode_of_isSeqRow {i : Instr} (h : isSeqRow i = true) : encode i = encode .seq := by
  cases i with
  | seqIdle | seqArmed | seqWaiting | seqMeasured | seqAdjusting | seqFaulted | seqDone => rfl
  | cmdNop | cmdRun | cmdArm | cmdSnapshot | cmdMeasure | cmdAdjust | cmdReserved => cases h
  | refTick | ppsRise | ppsFall | timeout | reset | busRd | busWr | seq => cases h

/-- Settles O3: `decode_eq_ok_iff` from right to left. -/
theorem decodeInvertsEncode : Obligations.DecodeInvertsEncode :=
  fun _ hw => ⟨fun hr => decode_eq_ok_iff.mpr ⟨hw, hr, rfl⟩,
    fun hr => decode_eq_ok_iff.mpr ⟨rfl, rfl, (encode_of_isSeqRow hr).symm⟩⟩

/-- Settles O4: `decode_eq_ok_iff` from left to right. -/
theorem encodeInvertsDecode : Obligations.EncodeInvertsDecode := by
  intro r i h
  obtain ⟨hw, hr, he⟩ := decode_eq_ok_iff.mp h
  exact ⟨hw, hr, he⟩

/-- Settles O2: each word is the encoder's word of its operation. -/
theorem tableWordsDecode : Obligations.TableWordsDecode := by
  unfold Obligations.TableWordsDecode
  simp only [decode_eq_ok_iff]
  and_intros <;> exact ⟨rfl, rfl, rfl⟩

/-- The operations without operands that have a word of their own, with their classes (R65). -/
def bareRows : List (Byte × Instr) :=
  [(0x01, .refTick), (0x02, .ppsRise), (0x03, .ppsFall), (0x04, .timeout), (0x05, .reset), (0x20, .seq)]

theorem bareRows_isWordOf : ∀ p ∈ bareRows, IsWordOf p.2 (.opw (opwOf p.1 0 0 0)) := by
  simp only [bareRows, List.forall_mem_cons]
  exact ⟨⟨rfl, rfl, rfl⟩, ⟨rfl, rfl, rfl⟩, ⟨rfl, rfl, rfl⟩, ⟨rfl, rfl, rfl⟩, ⟨rfl, rfl, rfl⟩, ⟨rfl, rfl, rfl⟩,
    List.forall_mem_nil _⟩

/-- The operation words by their fields (R62, R65). -/
theorem isWordOf_opwOf_iff {i : Instr} {cls size ofs : Byte} {data : Word} :
    IsWordOf i (.opw (opwOf cls size ofs data)) ↔
      ((cls, i) ∈ bareRows ∧ size = 0 ∧ ofs = 0 ∧ data = 0) ∨
        (i = .busRd size ofs ∧ cls = 0x10 ∧ ofs.toNat ≤ 0x7F ∧ data = 0) ∨
        (i = .busWr size ofs data ∧ cls = 0x11 ∧ ofs.toNat ≤ 0x7F) := by
  constructor
  · rintro ⟨hw, hr, he⟩
    have fields {c z o : Byte} {d : Word} (h : RawOp.opw (opwOf c z o d) = .opw (opwOf cls size ofs data)) :
        c = cls ∧ z = size ∧ o = ofs ∧ d = data := opwOf_inj.mp (RawOp.opw.inj h)
    cases i with
    | cmdNop | cmdRun | cmdArm | cmdSnapshot | cmdMeasure | cmdAdjust | cmdReserved => cases he
    | seqIdle | seqArmed | seqWaiting | seqMeasured | seqAdjusting | seqFaulted | seqDone => cases hr
    | refTick | ppsRise | ppsFall | timeout | reset | seq =>
      obtain ⟨rfl, rfl, rfl, rfl⟩ := fields he
      exact .inl ⟨by decide, rfl, rfl, rfl⟩
    | busRd z o =>
      obtain ⟨rfl, rfl, rfl, rfl⟩ := fields he
      exact .inr (.inl ⟨rfl, rfl, (offsetInWindow_iff _).mp hw, rfl⟩)
    | busWr z o d =>
      obtain ⟨rfl, rfl, rfl, rfl⟩ := fields he
      exact .inr (.inr ⟨rfl, rfl, (offsetInWindow_iff _).mp hw⟩)
  · rintro (⟨hb, rfl, rfl, rfl⟩ | ⟨rfl, rfl, ho, rfl⟩ | ⟨rfl, rfl, ho⟩)
    · exact bareRows_isWordOf _ hb
    · exact ⟨(offsetInWindow_iff _).mpr ho, rfl, rfl⟩
    · exact ⟨(offsetInWindow_iff _).mpr ho, rfl, rfl⟩

theorem exists_mem_bareRows_iff {cls : Byte} :
    (∃ i, (cls, i) ∈ bareRows) ↔ cls.toNat ∈ [0x01, 0x02, 0x03, 0x04, 0x05, 0x20] := by
  simp [bareRows, BitVec.toNat_eq, exists_or]

/-- Settles O5: the words that decode are the words of operations, field by field. -/
theorem operationWordNamesAStep : Obligations.OperationWordNamesAStep := by
  intro cls size ofs data
  simp only [decode_eq_ok_iff, isWordOf_opwOf_iff, exists_or, exists_and_right, exists_mem_bareRows_iff,
    exists_eq, true_and]

/-! ## A write to CMD (R64) -/

/-- A write to CMD executes its value as a command word. -/
theorem exec_write_cmd (v : CmdWord) (s : State) :
    exec (.busWr 4 4 v) s = .next ((execCommand v s).respond .writeOk) :=
  exec_write (by decide) (by decide) v

/-- The decoder's command map and the executed one branch on the same fields. -/
theorem exec_decodeCmd (v : CmdWord) (s : State) :
    exec (decodeCmd v) s = .next ((execCommand v s).respond .writeOk) := by
  unfold decodeCmd execCommand
  split_ifs <;> rfl

theorem exec_write_cmd_eq_decodeCmd (v : CmdWord) (s : State) : exec (.busWr 4 4 v) s = exec (decodeCmd v) s :=
  (exec_write_cmd v s).trans (exec_decodeCmd v s).symm

/-- A write to CMD of a word beyond the six commands. -/
theorem exec_write_cmd_reserved {v : CmdWord} (h : 5 < v.toNat) (s : State) :
    exec (.busWr 4 4 v) s = .next { s with ill := true, busResponse := some .writeOk } := by
  rw [exec_write_cmd_eq_decodeCmd, decodeCmd_of_five_lt h, exec_cmdReserved]

/-- Settles O6: the six commands by their words, and any other word by its being above 5. -/
theorem busWriteToCmdIsTheCommand : Obligations.BusWriteToCmdIsTheCommand := by
  refine fun v s => ⟨exec_write_cmd_eq_decodeCmd v s, ?_⟩
  rcases mem_assignedWords_or_five_lt v with hv | h5
  · rw [exec_write_cmd_eq_decodeCmd]
    revert v
    simp only [assignedWords, List.forall_mem_cons]
    exact ⟨rfl, rfl, rfl, rfl, rfl, rfl, List.forall_mem_nil _⟩
  · rw [exec_write_cmd_reserved h5]
    by_cases hr : v.toNat / 256 ≠ 0
    · rw [if_pos hr]
    · rw [if_neg hr]
      iterate 6 rw [if_neg (by omega)]

/-- Settles O1: the written-out words are the encoder's, and 0x102 is above the six commands. -/
theorem workedEncodings : Obligations.WorkedEncodings := by
  unfold Obligations.WorkedEncodings
  simp only [decode_eq_ok_iff]
  exact ⟨⟨rfl, rfl, rfl⟩, rfl, ⟨rfl, rfl, rfl⟩, rfl, ⟨rfl, rfl, rfl⟩, rfl, ⟨rfl, rfl, rfl⟩, rfl, ⟨rfl, rfl, rfl⟩,
    exec_write_cmd_reserved (by decide)⟩

/-! ## Where SEQ has a step (R65, R66) -/

theorem seqStepIn_of_ne {s : State} {st : SeqState} (t : State) (h : s.seqState ≠ st.bits) :
    s.seqStepIn st t = .refused .seqNotEnabled := if_neg h

/-- Where STATE encodes `st`, SEQ takes that state's step. -/
theorem exec_seq_of_state {s : State} {st : SeqState} (h : s.seqState = st.bits) : exec .seq s = seqIn st s :=
  execSeq_of_state (by rw [h, SeqState.ofBits_bits])

theorem exec_seq_of_unused {s : State} (h : 9 ≤ s.seqState.toNat) : exec .seq s = .refused .seqStateUnused := by
  rcases SeqState.ofBits_cases s.seqState with ⟨st, hb, -⟩ | ⟨-, ho⟩
  · have := st.bits_lt
    rw [← hb] at this
    omega
  · exact execSeq_of_unused ho

/-- Settles O32: a named step asks for its state, and SEQ takes the step of the state that STATE encodes. -/
theorem seqExistsOnlyWhereEnabled : Obligations.SeqExistsOnlyWhereEnabled := by
  intro s
  refine ⟨?_, exec_seq_of_unused, seqStepIn_of_ne (st := .idle) _, seqStepIn_of_ne (st := .armed) _, ?_,
    seqStepIn_of_ne (st := .measured) _, seqStepIn_of_ne (st := .adjusting) _, seqStepIn_of_ne (st := .faulted) _,
    seqStepIn_of_ne (st := .done) _⟩
  · rintro (h | h)
    · exact exec_seq_of_state (st := .stopped) h
    · exact exec_seq_of_state (st := .cleanup) h
  · intro h
    change execSeqWaiting s = _
    rw [execSeqWaiting, seqStepIn_of_ne (st := .waitingForWindow) _ h, ite_self]

/-! ## SETTLE (R69) -/

/-- The most sequencer steps that can follow in a row, PG_COMPLETE being as given: the longest way leads from a closed
window through a step of CORR and a failed arm to CLEANUP. An arm opens the window, which ends a row. -/
def stepsLeft (complete : Bool) : SeqState → Nat
  | .waitingForWindow => if complete then 7 else 0
  | .measured => 6
  | .adjusting => 5
  | .idle => 4
  | .armed => 3
  | .faulted => 2
  | .done => 1
  | .stopped | .cleanup => 0

theorem stepsLeft_le (complete : Bool) (st : SeqState) : stepsLeft complete st ≤ 7 := by
  revert complete
  cases st <;> decide

/-- A sequencer step is enabled exactly where some are left. -/
theorem seqEnabled_eq {s : State} {st : SeqState} (h : s.seqState = st.bits) :
    s.seqEnabled = decide (0 < stepsLeft s.pgComplete st) := by
  rw [State.seqEnabled, h, SeqState.ofBits_bits]
  cases st with
  | waitingForWindow => cases s.pgComplete <;> rfl
  | idle | armed | measured | adjusting | faulted | done | stopped | cleanup => rfl

/-- The state `t` is a used one, with fewer than `n` steps left. -/
def HasFewer (n : Nat) (t : State) : Prop := ∃ st : SeqState, t.seqState = st.bits ∧ stepsLeft t.pgComplete st < n

/-- Enough for a state other than WAITING_FOR_WINDOW, whose steps left do not depend on PG_COMPLETE. -/
theorem HasFewer.of_forall {n : Nat} {t : State} (st : SeqState) (ht : t.seqState = st.bits)
    (hlt : ∀ complete, stepsLeft complete st < n) : HasFewer n t :=
  ⟨st, ht, hlt _⟩

theorem idleStep_hasFewer (s : State) : HasFewer 4 (idleStep s) := by
  unfold idleStep
  split
  · exact .of_forall .armed rfl (by decide)
  · exact .of_forall .done rfl (by decide)

theorem armedStep_hasFewer (s : State) : HasFewer 3 (armedStep s) := by
  rcases armedStep_cases s with ⟨-, h⟩ | ⟨-, h⟩ <;> rw [h]
  · exact ⟨.waitingForWindow, rfl, Nat.zero_lt_succ 2⟩
  · exact .of_forall .faulted rfl (by decide)

theorem waitStep_hasFewer (s : State) : HasFewer 7 (waitStep s) := .of_forall .measured rfl (by decide)

theorem measuredStep_hasFewer (s : State) : HasFewer 6 (measuredStep s) := by
  rcases measuredStep_cases s with ⟨-, h⟩ | ⟨-, -, -, h⟩ | ⟨-, -, -, h⟩ | ⟨-, -, h⟩ <;> rw [h]
  · exact .of_forall .idle rfl (by decide)
  · exact .of_forall .faulted rfl (by decide)
  · exact .of_forall .idle rfl (by decide)
  · exact .of_forall .adjusting rfl (by decide)

theorem adjustStep_hasFewer (s : State) : HasFewer 5 (adjustStep s) := .of_forall .idle rfl (by decide)

theorem faultedStep_hasFewer (s : State) : HasFewer 2 (faultedStep s) := .of_forall .done rfl (by decide)

theorem doneStep_hasFewer (s : State) : HasFewer 1 (doneStep s) := .of_forall .cleanup rfl (by decide)

/-- Where steps are left SEQ takes one, and fewer are left then (R94 to R100). -/
theorem exec_seq_hasFewer {s : State} {st : SeqState} (hs : s.seqState = st.bits)
    (hpos : 0 < stepsLeft s.pgComplete st) :
    ∃ t, exec .seq s = .next t ∧ HasFewer (stepsLeft s.pgComplete st) t := by
  rw [exec_seq_of_state hs]
  cases st with
  | idle => exact ⟨_, rfl, idleStep_hasFewer s⟩
  | armed => exact ⟨_, rfl, armedStep_hasFewer s⟩
  | waitingForWindow =>
    cases hc : s.pgComplete with
    | true => exact ⟨_, if_pos hc, waitStep_hasFewer s⟩
    | false =>
      rw [hc] at hpos
      cases hpos
  | measured => exact ⟨_, rfl, measuredStep_hasFewer s⟩
  | adjusting => exact ⟨_, rfl, adjustStep_hasFewer s⟩
  | faulted => exact ⟨_, rfl, faultedStep_hasFewer s⟩
  | done => exact ⟨_, rfl, doneStep_hasFewer s⟩
  | stopped | cleanup => cases hpos

theorem settle_of_not_enabled {s : State} (h : s.seqEnabled = false) (k : Nat) : settle k s = .next s := by
  cases k with
  | zero => rfl
  | succ k => rw [settle, if_neg (ne_true_of_eq_false h)]

theorem settle_of_next {s t : State} (h : s.seqEnabled = true) (hx : exec .seq s = .next t) (k : Nat) :
    settle (k + 1) s = settle k t := by
  rw [settle, if_pos h, hx]

/-- Where no step is left SETTLE ends at once. -/
theorem settle_of_hasFewer_one {s : State} (h : HasFewer 1 s) (k : Nat) : settle k s = .next s := by
  obtain ⟨st, hst, hlt⟩ := h
  exact settle_of_not_enabled ((seqEnabled_eq hst).trans (decide_eq_false (by omega))) k

/-- Where at most `n` steps are left SETTLE ends after at most `n`, where none is. -/
theorem settle_of_hasFewer (n : Nat) {s : State} (hs : HasFewer (n + 1) s) :
    ∃ t, (∀ k, settle (n + k) s = .next t) ∧ HasFewer 1 t := by
  induction n generalizing s with
  | zero => exact ⟨s, fun k => settle_of_hasFewer_one hs (0 + k), hs⟩
  | succ n ih =>
    obtain ⟨st, hst, hlt⟩ := hs
    rcases Nat.eq_zero_or_pos (stepsLeft s.pgComplete st) with h0 | hpos
    · have h1 : HasFewer 1 s := ⟨st, hst, by omega⟩
      exact ⟨s, fun k => settle_of_hasFewer_one h1 (n + 1 + k), h1⟩
    · have he : s.seqEnabled = true := (seqEnabled_eq hst).trans (decide_eq_true hpos)
      obtain ⟨u, hu, su, hsu, hfewer⟩ := exec_seq_hasFewer hst hpos
      obtain ⟨t, ht, hnone⟩ := ih ⟨su, hsu, by omega⟩
      exact ⟨t, fun k => by rw [Nat.add_right_comm, settle_of_next he hu, ht], hnone⟩

/-- Where no step is left: STOPPED, CLEANUP, or an open window (R66). -/
theorem HasFewer.state_of_one {t : State} (h : HasFewer 1 t) :
    t.seqState = 0 ∨ t.seqState = 8 ∨ (t.seqState = 3 ∧ t.pgComplete = false) := by
  obtain ⟨st, hst, hlt⟩ := h
  cases st with
  | stopped => exact .inl hst
  | cleanup => exact .inr (.inl hst)
  | waitingForWindow =>
    cases hc : t.pgComplete with
    | true =>
      rw [hc] at hlt
      exact absurd hlt (by decide)
    | false => exact .inr (.inr ⟨hst, rfl⟩)
  | idle | armed | measured | adjusting | faulted | done => simp [stepsLeft] at hlt

/-- Settles O33: no used state has more than seven steps left. -/
theorem settleStops : Obligations.SettleStops := by
  intro s hs
  rcases SeqState.ofBits_cases s.seqState with ⟨st, hst, -⟩ | ⟨hunused, -⟩
  · obtain ⟨t, ht, hnone⟩ := settle_of_hasFewer 7 ⟨st, hst, Nat.lt_succ_of_le (stepsLeft_le s.pgComplete st)⟩
    exact ⟨t, ht, hnone.state_of_one⟩
  · omega

end Sys2Proof.Proofs.Encoding

/-! # The reference counter (40_reference_counter.md)

`exec_counterEffect` says once what an operation does to RC_COUNT and RC_OVF: it zeroes them exactly where
`resetsCounter` says so, REF_TICK counts an edge while RC_RUN = 1, and nothing else writes them. The count law and the
stability of frozen counts are read off it. -/

namespace Sys2Proof.Proofs.Counter

open Sys2Proof.Machine Sys2Proof.Safety Sys2Proof.Proofs.Scope Sys2Proof.Proofs.StateRules Sys2Proof.Proofs.Encoding

/-! ## REF_TICK (R71, R72) -/

theorem refTick_of_frozen {s : State} (h : s.rcRun = false) : refTick s = s := by simp [refTick, h]

theorem refTick_of_running {s : State} (h : s.rcRun = true) : refTick s = s.rcCountEdge := by simp [refTick, h]

/-- Settles O10: the edge is lost while the counter is frozen, and is `rcCountEdge` while it runs. -/
theorem refTickCountsOrWraps : Obligations.RefTickCountsOrWraps := by
  refine ⟨decode_eq_ok_iff.mpr ⟨rfl, rfl, rfl⟩, rfl, fun s => ?_⟩
  change Host.Outcome.next (refTick s) = _
  by_cases hrun : s.rcRun = false
  · rw [refTick_of_frozen hrun, if_pos hrun]
  · rw [refTick_of_running (by simpa using hrun), if_neg hrun]; rfl

/-! ## Who writes the counts (R71, R73, R74) -/

/-- The counts of `t` are those of `s`. -/
def SameCounts (s t : State) : Prop := t.rcCount = s.rcCount ∧ t.rcOvf = s.rcOvf

/-- Both counts are zero, as RcReset leaves them (R73). -/
def Zeroed (t : State) : Prop := t.rcCount = 0 ∧ t.rcOvf = 0

/-- Covers by conversion every update of `s` that writes neither count. -/
theorem sameCounts_refl (s : State) : SameCounts s s := ⟨rfl, rfl⟩

/-! ### Where `resetsCounter` holds -/

/-- The 1st qualifying edge resets the counter (R82). -/
theorem gateEdgeResult_zeroed {s : State} (h : s.pgEdges = 0) : Zeroed (gateEdgeResult s) := by
  have h1 : s.pgEdges + 1 = 1 := by rw [h]; rfl
  exact ⟨if_pos h1, if_pos h1⟩

/-- Any later qualifying edge leaves the counts alone (R82, R74). -/
theorem gateEdgeResult_sameCounts {s : State} (h : s.pgEdges ≠ 0) : SameCounts s (gateEdgeResult s) := by
  have h1 : s.pgEdges + 1 ≠ 1 := by simpa using h
  exact ⟨if_neg h1, if_neg h1⟩

theorem isFirstEdge_iff (s : State) (rise : Bool) :
    isFirstEdge s rise = true ↔
      s.pgTrigEn = true ∧ s.pgEdges = 0 ∧ (if s.edgeMode then !s.pgToggle else rise) = true := by
  simp only [isFirstEdge, Bool.and_eq_true, beq_iff_eq, and_assoc]

/-- In each mode the first edge's condition is that the event qualifies (R81) with no edge counted yet. -/
theorem ppsEvent_zeroed {s : State} {ev : PpsEvent} (h : isFirstEdge s (decide (ev = .rise)) = true) :
    Zeroed (s.ppsEvent ev) := by
  obtain ⟨ht, h0, hq⟩ := (isFirstEdge_iff ..).mp h
  cases hm : s.edgeMode with
  | false =>
    have hrise : ev = .rise := by simpa [hm] using hq
    have he : s.ppsEvent ev = gateEdgeResult s := by simp [State.ppsEvent, State.gateEdge_eq, ht, hm, hrise]
    exact he ▸ gateEdgeResult_zeroed h0
  | true =>
    have hp : s.pgToggle = false := by simpa [hm] using hq
    have he : s.ppsEvent ev = gateEdgeResult { s with pgToggle := true } := by
      simp [State.ppsEvent, State.gateEdge_eq, ht, hm, hp]
    exact he ▸ gateEdgeResult_zeroed h0

/-- A successful arm by the ARMED step resets the counter (R78, R95). -/
theorem armedStep_zeroed {s : State} (hn : 2 ≤ s.windowN.toNat) : Zeroed (armedStep s) := by
  rcases armedStep_cases s with ⟨-, he⟩ | ⟨hlt, -⟩
  · exact he ▸ ⟨rfl, rfl⟩
  · exact absurd hn (Nat.not_le_of_lt hlt)

/-- A successful ARM resets the counter (R78, R80). -/
theorem exec_cmdArm_zeroed {s t : State} (hb : s.busy = false) (hn : 2 ≤ s.windowN.toNat)
    (h : exec .cmdArm s = .next t) : Zeroed t := by
  have harm : armCmd s = s.armGate := by simp [armCmd, hb, State.armable, hn]
  have ht : (armCmd s).respond .writeOk = t := Host.Outcome.next.inj h
  rw [← ht, harm]
  exact ⟨rfl, rfl⟩

/-- What `resetsCounter` names does reset the counter; the operations it never names have nothing to show. -/
theorem exec_zeroed {i : Instr} {s t : State} (h : exec i s = .next t) (hr : resetsCounter i s = true) : Zeroed t := by
  cases i with
  | reset => cases h; exact ⟨rfl, rfl⟩
  | ppsRise => cases h; exact ppsEvent_zeroed hr
  | ppsFall => cases h; exact ppsEvent_zeroed hr
  | cmdArm =>
    simp only [resetsCounter, Bool.and_eq_true, Bool.not_eq_true', decide_eq_true_eq] at hr
    exact exec_cmdArm_zeroed hr.1 hr.2 h
  | busWr size ofs data =>
    simp only [resetsCounter, Bool.and_eq_true, Bool.not_eq_true', decide_eq_true_eq, beq_iff_eq] at hr
    obtain ⟨⟨⟨⟨rfl, rfl⟩, rfl⟩, hb⟩, hn⟩ := hr
    exact exec_cmdArm_zeroed hb hn ((exec_write_cmd_eq_decodeCmd 2 s).symm.trans h)
  | seq =>
    simp only [resetsCounter, Bool.and_eq_true, decide_eq_true_eq, beq_iff_eq] at hr
    obtain ⟨hs, hn⟩ := hr
    rw [exec_seq_of_state (st := .armed) hs] at h
    cases h; exact armedStep_zeroed hn
  | seqArmed =>
    simp only [resetsCounter, Bool.and_eq_true, decide_eq_true_eq] at hr
    obtain ⟨-, rfl⟩ := seqStepIn_next h
    exact armedStep_zeroed hr.2
  | cmdNop | cmdRun | cmdSnapshot | cmdMeasure | cmdAdjust | cmdReserved | refTick | timeout | busRd => cases hr
  | seqIdle | seqWaiting | seqMeasured | seqAdjusting | seqFaulted | seqDone => cases hr

/-! ### Where it does not -/

/-- A PPS event that qualifies is then a later edge of its window (R82). -/
theorem ppsEvent_sameCounts {s : State} {ev : PpsEvent} (h : isFirstEdge s (decide (ev = .rise)) = false) :
    SameCounts s (s.ppsEvent ev) := by
  have hne (ht : s.pgTrigEn = true) (hq : (if s.edgeMode then !s.pgToggle else decide (ev = .rise)) = true) :
      s.pgEdges ≠ 0 := fun h0 => absurd ((isFirstEdge_iff ..).mpr ⟨ht, h0, hq⟩) (by rw [h]; decide)
  rcases s.ppsEvent_cases ev with he | ⟨_, _, _, he⟩ | ⟨ht, hm, hev, he⟩ | ⟨ht, hm, hp, he⟩ <;> rw [he]
  · exact sameCounts_refl s
  · exact sameCounts_refl s
  · exact gateEdgeResult_sameCounts (hne ht (by rw [hm, hev]; rfl))
  · exact gateEdgeResult_sameCounts (s := { s with pgToggle := true }) (hne ht (by rw [hm, hp]; rfl))

/-- TIMEOUT freezes the counter and keeps the counts (R74, R101). -/
theorem timeoutStrobe_sameCounts (s : State) : SameCounts s (timeoutStrobe s) := by
  rcases timeoutStrobe_cases s with he | ⟨_, _, _, he⟩ <;> rw [he] <;> exact sameCounts_refl s

theorem idleStep_sameCounts (s : State) : SameCounts s (idleStep s) := by
  unfold idleStep
  split <;> exact sameCounts_refl s

/-- A failed arm leaves the counts alone (R95). -/
theorem armedStep_sameCounts {s : State} (h : ¬2 ≤ s.windowN.toNat) : SameCounts s (armedStep s) := by
  rcases armedStep_cases s with ⟨hn, -⟩ | ⟨-, he⟩
  · exact absurd hn h
  · exact he ▸ sameCounts_refl s

theorem measuredStep_sameCounts (s : State) : SameCounts s (measuredStep s) := by
  rcases measuredStep_cases s with ⟨_, he⟩ | ⟨_, _, _, he⟩ | ⟨_, _, _, he⟩ | ⟨_, _, he⟩ <;> rw [he] <;>
    exact sameCounts_refl s

theorem adjustStep_sameCounts (s : State) : SameCounts s (adjustStep s) := by
  rw [adjustStep_eq]; exact sameCounts_refl s

theorem doneStep_sameCounts (s : State) : SameCounts s (doneStep s) := by
  rw [doneStep_eq]; exact sameCounts_refl s

theorem writeConfig_sameCounts (r : Reg) (v : Word) (s : State) : SameCounts s (s.writeConfig r v) := by
  cases r <;> exact sameCounts_refl s

/-- A host access writes the counts only by a successful ARM. -/
theorem hostEffect_sameCounts {i : Instr} {s u : State} (hr : resetsCounter i s = false) (h : HostEffect i s u) :
    SameCounts s u := by
  cases h with
  | arm hi hb hn => rcases hi with rfl | rfl <;> simp [resetsCounter, hb, hn] at hr
  | config r v => exact writeConfig_sameCounts r v s
  | nothing | illegal | run | armFails | snapshot | measure | adjust | adjustLoss | clear | corr =>
    exact sameCounts_refl s

/-- Apart from RcReset and RESET, the counts change only by REF_TICK. -/
theorem execEffect_sameCounts {i : Instr} {s t : State} (hr : resetsCounter i s = false) (hi : i ≠ .refTick)
    (h : ExecEffect i s t) : SameCounts s t := by
  cases h with
  | host r _ hu =>
    obtain ⟨hc, ho⟩ := hostEffect_sameCounts hr hu
    exact ⟨hc, ho⟩
  | tick h => exact absurd h hi
  | rise h => subst h; exact ppsEvent_sameCounts hr
  | fall h => subst h; exact ppsEvent_sameCounts hr
  | timeout => exact timeoutStrobe_sameCounts s
  | reset h => subst h; cases hr
  | idle => exact idleStep_sameCounts s
  | armed h hs =>
    refine armedStep_sameCounts fun hn => ?_
    rcases h with rfl | rfl <;> simp [resetsCounter, hs, hn] at hr
  | measured => exact measuredStep_sameCounts s
  | adjusting => exact adjustStep_sameCounts s
  | done => exact doneStep_sameCounts s
  | waiting | faulted => exact sameCounts_refl s

/-! ### All operations -/

/-- What an operation that has a next state does to the counts. -/
inductive CounterEffect (i : Instr) (s : State) : State → Prop where
  /-- RcReset or RESET (R73, R133). -/
  | zeroed {t : State} : resetsCounter i s = true → Zeroed t → CounterEffect i s t
  /-- A counted edge (R71). -/
  | counted : resetsCounter i s = false → i = .refTick → s.rcRun = true → CounterEffect i s s.rcCountEdge
  /-- Anything else, an edge while the counter is frozen among it. -/
  | kept {t : State} : resetsCounter i s = false → ¬(i = .refTick ∧ s.rcRun = true) → SameCounts s t →
      CounterEffect i s t

theorem exec_counterEffect {i : Instr} {s t : State} (h : exec i s = .next t) : CounterEffect i s t := by
  cases hr : resetsCounter i s with
  | true => exact .zeroed hr (exec_zeroed h hr)
  | false =>
    by_cases hi : i = .refTick
    · subst hi
      obtain rfl : refTick s = t := Host.Outcome.next.inj h
      cases hrun : s.rcRun with
      | true => rw [refTick_of_running hrun]; exact .counted hr rfl hrun
      | false => rw [refTick_of_frozen hrun]; exact .kept hr (by simp [hrun]) (sameCounts_refl s)
    · exact .kept hr (fun hc => hi hc.1) (execEffect_sameCounts hr hi (exec_effect h))

/-- Settles O12: of the three effects only `kept` is left. -/
theorem frozenCountsAreStable : Obligations.FrozenCountsAreStable := by
  intro i s t h hrun hr
  cases exec_counterEffect h with
  | zeroed hr' => rw [hr] at hr'; cases hr'
  | counted _ _ hrun' => rw [hrun] at hrun'; cases hrun'
  | kept _ _ hsame => exact hsame

/-! ## The count law (R75) -/

/-- The pair (RC_OVF, RC_COUNT), read as a two-digit number, holds `n` modulo M * 2^32. -/
def Counts (n : Nat) (s : State) : Prop :=
  s.rcCount.toNat < s.modulus ∧ tally s = n % (s.modulus * 2 ^ 32)

theorem Zeroed.counts_zero {s : State} (h : Zeroed s) : Counts 0 s := by
  obtain ⟨hc, ho⟩ := h
  simp [Counts, tally, hc, ho, modulus_pos]

theorem Counts.of_sameCounts {n : Nat} {s t : State} (h : Counts n s) (hm : t.modulus = s.modulus)
    (hsame : SameCounts s t) : Counts n t := by
  obtain ⟨hc, ho⟩ := hsame
  simpa only [Counts, tally, hm, hc, ho] using h

theorem Counts.rcCountEdge {n : Nat} {s : State} (h : Counts n s) (hm : s.rcCountEdge.modulus = s.modulus) :
    Counts (n + 1) s.rcCountEdge := by
  obtain ⟨hlt, htally⟩ := h
  obtain ⟨hedge, hlt'⟩ := s.rcCountEdge_tally hlt
  refine ⟨hm ▸ hlt', ?_⟩
  calc tally s.rcCountEdge = (tally s + 1) % (s.modulus * 2 ^ 32) := by rw [tally, hm]; exact hedge
    _ = (n + 1) % (s.rcCountEdge.modulus * 2 ^ 32) := by rw [htally, Nat.mod_add_mod, hm]

/-- Each operation moves the counts as `countedSince` moves T. -/
theorem Counts.exec {n : Nat} {i : Instr} {s t : State} (hn : Counts n s) (h : exec i s = .next t) :
    Counts (if resetsCounter i s then 0 else if i = .refTick ∧ s.rcRun = true then n + 1 else n) t := by
  have hm : t.modulus = s.modulus :=
    congrArg (2 ^ ·) (execEffect_sameParams (exec_effect h)).width_base.1
  cases exec_counterEffect h with
  | zeroed hr hz => rw [if_pos hr]; exact hz.counts_zero
  | counted hr hi hrun => rw [hr, if_neg nofun, if_pos ⟨hi, hrun⟩]; exact hn.rcCountEdge hm
  | kept hr hni hsame => rw [hr, if_neg nofun, if_neg hni]; exact hn.of_sameCounts hm hsame

theorem countedSince_cons {i : Instr} {s u : State} (h : exec i s = .next u) (is : List Instr) (n : Nat) :
    countedSince (i :: is) s n = countedSince is u
      (if resetsCounter i s then 0 else if i = .refTick ∧ s.rcRun = true then n + 1 else n) := by
  rw [countedSince, h]

/-- A run that ends in a state has a first step and goes on from there. -/
theorem runInstrs_cons_next {i : Instr} {is : List Instr} {s t : State} (h : runInstrs (i :: is) s = .next t) :
    ∃ u, exec i s = .next u ∧ runInstrs is u = .next t := by
  rw [runInstrs_cons] at h
  cases hx : exec i s with
  | next u => rw [hx] at h; exact ⟨u, rfl, h⟩
  | fault e => rw [hx] at h; cases h
  | refused e => rw [hx] at h; cases h

/-- Along a run the counts hold T, from whatever T they start. -/
theorem Counts.run {is : List Instr} {n : Nat} {s t : State} (hn : Counts n s) (h : runInstrs is s = .next t) :
    Counts (countedSince is s n) t := by
  induction is generalizing n s with
  | nil => cases h; exact hn
  | cons i is ih =>
    obtain ⟨u, hx, hrun⟩ := runInstrs_cons_next h
    rw [countedSince_cons hx]
    exact ih (hn.exec hx) hrun

/-- Below M * 2^32 the two digits are the remainder and the quotient by M. -/
theorem Counts.digits {n : Nat} {s : State} (h : Counts n s) (hn : n < s.modulus * 2 ^ 32) :
    s.rcCount.toNat = n % s.modulus ∧ s.rcOvf.toNat = n / s.modulus := by
  obtain ⟨hlt, htally⟩ := h
  rw [Nat.mod_eq_of_lt hn, tally] at htally
  have hdigits : s.rcCount.toNat + s.modulus * s.rcOvf.toNat = n := by rw [← htally]; ring
  obtain ⟨hq, hr⟩ := (Nat.div_mod_unique (modulus_pos s)).mpr ⟨hdigits, hlt⟩
  exact ⟨hr.symm, hq.symm⟩

/-- Settles O11: a zeroed counter holds 0, and each operation of the run keeps the count law. -/
theorem countLaw : Obligations.CountLaw := by
  intro is s t hc ho h
  have hcounts : Counts (countedSince is s 0) t := Counts.run (Zeroed.counts_zero ⟨hc, ho⟩) h
  exact ⟨hcounts.2, hcounts.digits⟩

end Sys2Proof.Proofs.Counter

/-! # The PPS gate (41_pps_gate.md)

`WindowOpen` and `WindowClosed` say where the gate stands after a number of seen transitions; every gate event moves
between them (`GateAt.after_exec`), whichever arm opened the window. The window length law reads off where a run of
events ends, the counted-edges law (`WindowOpen.window`) adds the count law of the counter to it. -/

namespace Sys2Proof.Proofs.Gate

open Sys2Proof.Machine Sys2Proof.Safety Sys2Proof.Proofs.StateRules Sys2Proof.Proofs.Encoding
  Sys2Proof.Proofs.Counter

/-! ## The ARM command (R78 to R80) -/

theorem armCmd_of_busy {s : State} (hb : s.busy = true) : armCmd s = s.setIll := by rw [armCmd, if_pos hb]

theorem armCmd_of_armable {s : State} (hb : s.busy = false) (hn : 2 ≤ s.windowN.toNat) : armCmd s = s.armGate := by
  simp [armCmd, hb, State.armable, hn]

theorem armCmd_of_not_armable {s : State} (hb : s.busy = false) (hn : s.windowN.toNat < 2) :
    armCmd s = s.setSticky .hardwareInit := by
  simp [armCmd, hb, State.armable, hn]

/-- Settles O13: BUSY is looked at before WINDOW_N. -/
theorem armCommand : Obligations.ArmCommand := by
  refine ⟨decode_eq_ok_iff.mpr ⟨rfl, rfl, rfl⟩, rfl, fun s => ?_⟩
  change Host.Outcome.next ((armCmd s).respond .writeOk) = _
  cases hb : s.busy with
  | true => rw [armCmd_of_busy hb, if_pos rfl]; rfl
  | false =>
    rw [if_neg Bool.false_ne_true]
    by_cases hn : s.windowN.toNat < 2
    · rw [armCmd_of_not_armable hb hn, if_pos hn]; rfl
    · rw [armCmd_of_armable hb (Nat.le_of_not_lt hn), if_neg hn]; rfl

/-! ## A PPS event in each mode (R81, R83, R84) -/

/-- Mode 0: a rise qualifies. -/
theorem ppsEvent_rise {s : State} (ht : s.pgTrigEn = true) (hm : s.edgeMode = false) :
    s.ppsEvent .rise = gateEdgeResult s := by
  simp [State.ppsEvent, State.gateEdge_eq, ht, hm]

/-- Mode 0: a fall is not seen. -/
theorem ppsEvent_fall {s : State} (hm : s.edgeMode = false) : s.ppsEvent .fall = s := by simp [State.ppsEvent, hm]

/-- Mode 1: both directions invert the toggle flag, and the new flag says whether the transition qualifies. -/
theorem ppsEvent_toggle {s : State} (ev : PpsEvent) (ht : s.pgTrigEn = true) (hm : s.edgeMode = true) :
    s.ppsEvent ev =
      if s.pgToggle then { s with pgToggle := false } else gateEdgeResult { s with pgToggle := true } := by
  cases hp : s.pgToggle <;> simp [State.ppsEvent, State.gateEdge_eq, ht, hm, hp]

/-- EDGE_MODE is the lowest bit of CTRL (R35). -/
theorem edgeMode_eq_false_iff (s : State) : s.edgeMode = false ↔ s.ctrl.toNat % 2 = 0 := by
  rw [State.edgeMode, BitVec.getLsbD, Nat.testBit_zero, decide_eq_false_iff_not, Nat.mod_two_not_eq_one]

/-- A PPS event by the trigger, the mode and the toggle flag; `mode0` is where it leads in mode 0. -/
theorem ppsEvent_eq {s mode0 : State} {ev : PpsEvent}
    (h0 : s.pgTrigEn = true → s.edgeMode = false → s.ppsEvent ev = mode0) :
    s.ppsEvent ev =
      if s.pgTrigEn = false then s
      else if s.ctrl.toNat % 2 = 0 then mode0
      else if s.pgToggle then { s with pgToggle := false }
      else gateEdgeResult { s with pgToggle := true } := by
  by_cases ht : s.pgTrigEn = false
  · rw [if_pos ht, s.ppsEvent_disabled ev ht]
  · have ht' : s.pgTrigEn = true := by simpa using ht
    simp only [if_neg ht, ← edgeMode_eq_false_iff]
    by_cases hm : s.edgeMode = false
    · rw [if_pos hm, h0 ht' hm]
    · rw [if_neg hm, ppsEvent_toggle ev ht' (by simpa using hm)]

/-- Settles O14: in mode 0 a rise is a qualifying edge. -/
theorem ppsRiseEvent : Obligations.PpsRiseEvent :=
  ⟨decode_eq_ok_iff.mpr ⟨rfl, rfl, rfl⟩, rfl, fun _ => congrArg Host.Outcome.next (ppsEvent_eq ppsEvent_rise)⟩

/-- Settles O15: in mode 0 a fall is not seen. -/
theorem ppsFallEvent : Obligations.PpsFallEvent :=
  ⟨decode_eq_ok_iff.mpr ⟨rfl, rfl, rfl⟩, rfl,
    fun _ => congrArg Host.Outcome.next (ppsEvent_eq fun _ => ppsEvent_fall)⟩

/-! ## Runs of gate events -/

theorem isGateEvent_iff {i : Instr} : isGateEvent i = true ↔ i = .refTick ∨ i = .ppsRise ∨ i = .ppsFall := by
  simp only [isGateEvent, Bool.or_eq_true, beq_iff_eq, or_assoc]

/-- What a gate event leads to. -/
theorem exec_gateEvent_cases {i : Instr} {s t : State} (hi : isGateEvent i = true) (hx : exec i s = .next t) :
    (i = .refTick ∧ t = refTick s) ∨ (i = .ppsRise ∧ t = s.ppsEvent .rise) ∨
      (i = .ppsFall ∧ t = s.ppsEvent .fall) := by
  rcases isGateEvent_iff.mp hi with rfl | rfl | rfl <;> cases hx
  · exact .inl ⟨rfl, rfl⟩
  · exact .inr (.inl ⟨rfl, rfl⟩)
  · exact .inr (.inr ⟨rfl, rfl⟩)

theorem exec_gateEvent_next {i : Instr} (hi : isGateEvent i = true) (s : State) : ∃ t, exec i s = .next t := by
  rcases isGateEvent_iff.mp hi with rfl | rfl | rfl <;> exact ⟨_, rfl⟩

/-- A run of two lists ends where the second ends from the end of the first. -/
theorem runInstrs_append_next {is js : List Instr} {s t : State} (h : runInstrs (is ++ js) s = .next t) :
    ∃ u, runInstrs is s = .next u ∧ runInstrs js u = .next t := by
  induction is generalizing s with
  | nil => exact ⟨s, rfl, h⟩
  | cons i is ih =>
    obtain ⟨v, hx, hrun⟩ := runInstrs_cons_next h
    obtain ⟨u, his, hjs⟩ := ih hrun
    exact ⟨u, by rw [runInstrs, hx]; exact his, hjs⟩

/-- Gate events always have a next state. -/
theorem runInstrs_gateEvents {evs : List Instr} (hall : ∀ i ∈ evs, isGateEvent i = true) (s : State) :
    ∃ t, runInstrs evs s = .next t := by
  induction evs generalizing s with
  | nil => exact ⟨s, rfl⟩
  | cons i is ih =>
    obtain ⟨hi, his⟩ := List.forall_mem_cons.mp hall
    obtain ⟨u, hx⟩ := exec_gateEvent_next hi s
    obtain ⟨t, ht⟩ := ih his u
    exact ⟨t, by rw [runInstrs, hx]; exact ht⟩

/-! ## Where the gate stands after an arm (R78, R82)

`m` is the edge mode, `n` is WINDOW_N and `k` counts the transitions seen since the arm. -/

/-- The qualifying edges among the first `k` seen transitions: in mode 1 the 1st, the 3rd and so on (R81). -/
def edgesAfter (m : Bool) (k : Nat) : Nat := if m then (k + 1) / 2 else k

theorem edgesAfter_lt_iff (m : Bool) (n k : Nat) : edgesAfter m k < n ↔ k < seenPerWindow m n := by
  cases m <;> simp only [edgesAfter, seenPerWindow, if_true, Bool.false_eq_true, if_false]
  omega

/-- The window is armed and not complete, `k` transitions after the arm. -/
structure WindowOpen (m : Bool) (n k : Nat) (s : State) : Prop where
  mode : s.edgeMode = m
  length : s.windowN.toNat = n
  below : k < seenPerWindow m n
  enabled : s.pgTrigEn = true
  running : s.rcRun = true
  incomplete : s.pgComplete = false
  edges : s.pgEdges.toNat = edgesAfter m k
  toggle : m = true → s.pgToggle = decide (k % 2 = 1)

/-- The window is complete. -/
structure WindowClosed (n : Nat) (s : State) : Prop where
  complete : s.pgComplete = true
  disabled : s.pgTrigEn = false
  frozen : s.rcRun = false
  edges : s.pgEdges.toNat = n

/-- The window is open or closed according to the number of transitions seen (R86). -/
inductive GateAt (m : Bool) (n k : Nat) (s : State) : Prop where
  | opened : WindowOpen m n k s → GateAt m n k s
  | closed : seenPerWindow m n ≤ k → WindowClosed n s → GateAt m n k s

theorem GateAt.windowOpen {m : Bool} {n k : Nat} {s : State} (h : GateAt m n k s) (hk : k < seenPerWindow m n) :
    WindowOpen m n k s := by
  cases h with
  | opened h => exact h
  | closed hle => exact absurd hk (Nat.not_lt.mpr hle)

theorem GateAt.windowClosed {m : Bool} {n k : Nat} {s : State} (h : GateAt m n k s) (hk : seenPerWindow m n ≤ k) :
    WindowClosed n s := by
  cases h with
  | opened h => exact absurd h.below (Nat.not_lt.mpr hk)
  | closed _ h => exact h

/-- A successful arm opens the window, with the mode and the length configured. -/
theorem armGate_windowOpen {s : State} (hn : 2 ≤ s.windowN.toNat) :
    WindowOpen s.edgeMode s.windowN.toNat 0 s.armGate where
  mode := rfl
  length := rfl
  below := by rw [← edgesAfter_lt_iff]; cases s.edgeMode <;> exact Nat.zero_lt_of_lt hn
  enabled := rfl
  running := rfl
  incomplete := rfl
  edges := by cases s.edgeMode <;> rfl
  toggle := fun _ => rfl

/-- A successful ARM opens the window (R80). -/
theorem exec_cmdArm_windowOpen {s : State} (hb : s.busy = false) (hn : 2 ≤ s.windowN.toNat) :
    ∃ u, exec .cmdArm s = .next u ∧ WindowOpen s.edgeMode s.windowN.toNat 0 u :=
  ⟨s.armGate.respond .writeOk, by rw [← armCmd_of_armable hb hn]; rfl, { armGate_windowOpen hn with }⟩

/-! ### One event -/

section Window

variable {m : Bool} {n k : Nat} {s t : State}

/-- A closed window ignores every gate event (R71, R85). -/
theorem WindowClosed.after_exec (h : WindowClosed n s) {i : Instr} (hi : isGateEvent i = true)
    (hx : exec i s = .next t) : t = s := by
  rcases exec_gateEvent_cases hi hx with ⟨-, rfl⟩ | ⟨-, rfl⟩ | ⟨-, rfl⟩
  · exact refTick_of_frozen h.frozen
  · exact s.ppsEvent_disabled .rise h.disabled
  · exact s.ppsEvent_disabled .fall h.disabled

theorem WindowOpen.rcCountEdge (h : WindowOpen m n k s) : WindowOpen m n k s.rcCountEdge := by
  unfold State.rcCountEdge
  split <;> exact { h with }

/-- A qualifying edge is the last of the window and closes it, or is counted (R82). -/
theorem WindowOpen.gateEdge (h : WindowOpen m n k s) (hq : edgesAfter m (k + 1) = edgesAfter m k + 1) {b : Bool}
    (hb : m = true → b = decide ((k + 1) % 2 = 1)) :
    GateAt m n (k + 1) (gateEdgeResult { s with pgToggle := b }) := by
  have hlt : s.pgEdges.toNat < s.windowN.toNat := by
    rw [h.edges, h.length, edgesAfter_lt_iff]
    exact h.below
  have hedges : (s.pgEdges + 1).toNat = edgesAfter m (k + 1) := by rw [byte_succ_toNat hlt, h.edges, hq]
  by_cases hlast : s.pgEdges + 1 = s.windowN
  · have hn : (s.pgEdges + 1).toNat = n := by rw [hlast, h.length]
    refine .closed (Nat.not_lt.mp fun hk => ?_)
      { complete := if_pos hlast, disabled := if_pos hlast, frozen := if_pos hlast, edges := hn }
    exact absurd ((edgesAfter_lt_iff m n _).mpr hk) (by rw [← hedges, hn]; exact Nat.lt_irrefl n)
  · refine .opened
      { mode := h.mode, length := h.length, edges := hedges, toggle := hb, below := ?_
        enabled := (if_neg hlast).trans h.enabled, running := (if_neg hlast).trans h.running
        incomplete := (if_neg hlast).trans h.incomplete }
    have hne : (s.pgEdges + 1).toNat ≠ s.windowN.toNat := fun he => hlast (BitVec.eq_of_toNat_eq he)
    rw [← edgesAfter_lt_iff, ← hedges, ← h.length]
    exact lt_of_le_of_ne ((byte_succ_toNat hlt).trans_le hlt) hne

/-- Mode 1: every even-numbered transition only clears the toggle flag (R81). -/
theorem WindowOpen.toggled (h : WindowOpen true n k s) (hk : k % 2 = 1) :
    WindowOpen true n (k + 1) { s with pgToggle := false } :=
  { h with
    below := by have := h.below; simp only [seenPerWindow, if_true] at this ⊢; omega
    edges := by rw [h.edges]; simp only [edgesAfter, if_true]; omega
    toggle := fun _ => (decide_eq_false (by omega)).symm }

/-- A seen transition of an open window. -/
theorem WindowOpen.ppsEvent (h : WindowOpen m n k s) {ev : PpsEvent} (hseen : ev = .rise ∨ m = true) :
    GateAt m n (k + 1) (s.ppsEvent ev) := by
  cases m with
  | false =>
    obtain rfl : ev = .rise := by simpa using hseen
    rw [ppsEvent_rise h.enabled h.mode]
    exact h.gateEdge rfl (b := s.pgToggle) nofun
  | true =>
    rw [ppsEvent_toggle ev h.enabled h.mode, h.toggle rfl]
    by_cases hk : k % 2 = 1
    · rw [if_pos (decide_eq_true hk)]
      exact .opened (h.toggled hk)
    · rw [if_neg (by simpa using hk)]
      exact h.gateEdge (by simp only [edgesAfter, if_true]; omega) fun _ => (decide_eq_true (by omega)).symm

theorem WindowOpen.after_exec (h : WindowOpen m n k s) {i : Instr} (hi : isGateEvent i = true)
    (hx : exec i s = .next t) : GateAt m n (k + if seenTransition m i then 1 else 0) t := by
  rcases exec_gateEvent_cases hi hx with ⟨rfl, rfl⟩ | ⟨rfl, rfl⟩ | ⟨rfl, rfl⟩
  · rw [refTick_of_running h.running]
    cases m <;> exact .opened h.rcCountEdge
  · exact h.ppsEvent (.inl rfl)
  · cases m with
    | false => rw [ppsEvent_fall h.mode]; exact .opened h
    | true => exact h.ppsEvent (.inr rfl)

theorem GateAt.after_exec (h : GateAt m n k s) {i : Instr} (hi : isGateEvent i = true) (hx : exec i s = .next t) :
    GateAt m n (k + if seenTransition m i then 1 else 0) t := by
  cases h with
  | opened h => exact h.after_exec hi hx
  | closed hk h => rw [h.after_exec hi hx]; exact .closed (Nat.le_add_right_of_le hk) h

/-! ### A run of events -/

theorem GateAt.after_run {evs : List Instr} (h : GateAt m n k s) (hall : ∀ i ∈ evs, isGateEvent i = true)
    (hrun : runInstrs evs s = .next t) : GateAt m n (k + evs.countP (seenTransition m)) t := by
  induction evs generalizing k s with
  | nil => cases hrun; exact h
  | cons i is ih =>
    obtain ⟨hi, his⟩ := List.forall_mem_cons.mp hall
    obtain ⟨u, hx, hrun⟩ := runInstrs_cons_next hrun
    rw [List.countP_cons, Nat.add_comm (is.countP _), ← Nat.add_assoc]
    exact ih (h.after_exec hi hx) his hrun

theorem WindowClosed.after_run {evs : List Instr} (h : WindowClosed n s) (hall : ∀ i ∈ evs, isGateEvent i = true)
    (hrun : runInstrs evs s = .next t) : t = s := by
  induction evs with
  | nil => cases hrun; rfl
  | cons i is ih =>
    obtain ⟨hi, his⟩ := List.forall_mem_cons.mp hall
    obtain ⟨u, hx, hrun⟩ := runInstrs_cons_next hrun
    rw [h.after_exec hi hx] at hrun
    exact ih his hrun

end Window

/-- Settles O16: the ARM command opens the window, and the events lead to where `GateAt.after_run` says. -/
theorem windowLengthLaw : Obligations.WindowLengthLaw := by
  intro s evs hb hn hall
  obtain ⟨u, hx, hopen⟩ := exec_cmdArm_windowOpen hb hn
  obtain ⟨t, hrun⟩ := runInstrs_gateEvents hall u
  have hgate := (GateAt.opened hopen).after_run hall hrun
  rw [Nat.zero_add] at hgate
  refine ⟨t, by rw [runInstrs, hx]; exact hrun, fun hk => ?_, fun hk => ?_⟩
  · have h := hgate.windowOpen hk
    exact ⟨h.incomplete, h.enabled, h.running, h.edges⟩
  · have h := hgate.windowClosed hk
    exact ⟨h.complete, h.disabled, h.frozen, BitVec.eq_of_toNat_eq h.edges⟩

/-! ## What a closed window holds (R87) -/

section Count

variable {m : Bool} {n k T : Nat} {s t : State}

theorem WindowOpen.pgEdges_eq_zero_iff (h : WindowOpen m n k s) : s.pgEdges = 0 ↔ k = 0 := by
  rw [← BitVec.toNat_inj, h.edges, show (0 : Byte).toNat = 0 from rfl]
  cases m <;> simp only [edgesAfter, if_true, Bool.false_eq_true, if_false]
  omega

/-- The first seen transition resets the counter. -/
theorem WindowOpen.resetsCounter_first (h : WindowOpen m n 0 s) {i : Instr} (hi : isGateEvent i = true)
    (hseen : seenTransition m i = true) : resetsCounter i s = true := by
  have hfirst (rise : Bool) (hm : m = true ∨ rise = true) : isFirstEdge s rise = true := by
    refine (isFirstEdge_iff ..).mpr ⟨h.enabled, h.pgEdges_eq_zero_iff.mpr rfl, ?_⟩
    rw [h.mode]
    cases m with
    | false => simpa using hm
    | true => rw [h.toggle rfl]; rfl
  rcases isGateEvent_iff.mp hi with rfl | rfl | rfl
  · cases m <;> cases hseen
  · exact hfirst true (.inr rfl)
  · exact hfirst false (.inl (by simpa [seenTransition] using hseen))

/-- After the 1st qualifying edge no gate event resets the counter. -/
theorem WindowOpen.resetsCounter_later (h : WindowOpen m n k s) (hk : 0 < k) {i : Instr}
    (hi : isGateEvent i = true) : resetsCounter i s = false := by
  have hlater (rise : Bool) : isFirstEdge s rise = false := by
    refine Bool.eq_false_iff.mpr fun hf => ?_
    obtain ⟨-, h0, -⟩ := (isFirstEdge_iff ..).mp hf
    exact Nat.ne_of_gt hk (h.pgEdges_eq_zero_iff.mp h0)
  rcases isGateEvent_iff.mp hi with rfl | rfl | rfl
  · rfl
  · exact hlater true
  · exact hlater false

/-- After the 1st qualifying edge an open window counts every reference edge, and nothing else. -/
theorem WindowOpen.counts_exec (h : WindowOpen m n k s) (hk : 0 < k) (hc : Counts T s) {i : Instr}
    (hi : isGateEvent i = true) (hx : exec i s = .next t) : Counts (T + if i == .refTick then 1 else 0) t := by
  have hcount := hc.exec hx
  rw [h.resetsCounter_later hk hi, if_neg Bool.false_ne_true] at hcount
  by_cases hr : i = .refTick
  · rw [if_pos ⟨hr, h.running⟩] at hcount
    rwa [if_pos (beq_iff_eq.mpr hr)]
  · rw [if_neg fun ⟨hr', _⟩ => hr hr'] at hcount
    rwa [if_neg (mt beq_iff_eq.mp hr)]

/-- So does a run of events that the window stays open for. -/
theorem WindowOpen.counts_run {evs : List Instr} (h : WindowOpen m n k s) (hk : 0 < k)
    (hbelow : k + evs.countP (seenTransition m) < seenPerWindow m n) (hc : Counts T s)
    (hall : ∀ i ∈ evs, isGateEvent i = true) (hrun : runInstrs evs s = .next t) :
    Counts (T + evs.count .refTick) t := by
  induction evs generalizing k T s with
  | nil => cases hrun; exact hc
  | cons i is ih =>
    obtain ⟨hi, his⟩ := List.forall_mem_cons.mp hall
    obtain ⟨u, hx, hrun⟩ := runInstrs_cons_next hrun
    rw [List.countP_cons, Nat.add_comm (is.countP _), ← Nat.add_assoc] at hbelow
    have hopen := (h.after_exec hi hx).windowOpen (Nat.lt_of_le_of_lt (Nat.le_add_right ..) hbelow)
    rw [List.count_cons, Nat.add_comm (is.count _), ← Nat.add_assoc]
    exact ih hopen (Nat.add_pos_left hk _) hbelow (h.counts_exec hk hc hi hx) his hrun

/-- The events of a window, from any arm: the counter is zeroed by the 1st qualifying edge (`a`), counts the reference
edges up to the last (`b`), which closes the window, and then stands still. -/
theorem WindowOpen.window {evs : List Instr} (h : WindowOpen m n 0 s) (hw : WindowOf m n T evs)
    (hrun : runInstrs evs s = .next t) : WindowClosed n t ∧ Counts T t := by
  obtain ⟨hall, pre, a, mid, b, post, rfl, ha, hb, hpre, hmid, rfl⟩ := hw
  simp only [List.forall_mem_append, List.forall_mem_cons] at hall
  obtain ⟨hpreAll, haEv, hmidAll, hbEv, hpostAll⟩ := hall
  obtain ⟨s₀, hpreRun, hrun⟩ := runInstrs_append_next hrun
  obtain ⟨s₁, haRun, hrun⟩ := runInstrs_cons_next hrun
  obtain ⟨s₂, hmidRun, hrun⟩ := runInstrs_append_next hrun
  obtain ⟨s₃, hbRun, hpostRun⟩ := runInstrs_cons_next hrun
  have hbefore : WindowOpen m n 0 s₀ := by
    have := (GateAt.opened h).after_run hpreAll hpreRun
    rw [hpre] at this
    exact this.windowOpen h.below
  have hfirst : GateAt m n 1 s₁ := by
    have := hbefore.after_exec haEv haRun
    rwa [if_pos ha] at this
  have hopen : WindowOpen m n 1 s₁ := hfirst.windowOpen (by omega)
  have hzero : Counts 0 s₁ := (exec_zeroed haRun (hbefore.resetsCounter_first haEv ha)).counts_zero
  have hinside : WindowOpen m n (1 + mid.countP (seenTransition m)) s₂ :=
    (hfirst.after_run hmidAll hmidRun).windowOpen (by omega)
  have hmidCounts := hopen.counts_run Nat.one_pos (by omega) hzero hmidAll hmidRun
  have hclosed : WindowClosed n s₃ := by
    have := hinside.after_exec hbEv hbRun
    rw [if_pos hb] at this
    exact this.windowClosed (by omega)
  have hcounts : Counts (mid.count .refTick) s₃ := by
    have := hinside.counts_exec (by omega) hmidCounts hbEv hbRun
    rwa [Nat.zero_add, if_neg (mt beq_iff_eq.mp (by rintro rfl; cases m <;> cases hb)), Nat.add_zero] at this
  rw [hclosed.after_run hpostAll hpostRun]
  exact ⟨hclosed, hcounts⟩

end Count

/-- Settles O17: the ARM command opens the window. -/
theorem countedEdgesLaw : Obligations.CountedEdgesLaw := by
  intro s T evs hb hn hw
  obtain ⟨u, hx, hopen⟩ := exec_cmdArm_windowOpen hb hn
  obtain ⟨t, hrun⟩ := runInstrs_gateEvents hw.1 u
  obtain ⟨hclosed, hcounts⟩ := hopen.window hw hrun
  exact ⟨t, by rw [runInstrs, hx]; exact hrun, hclosed.complete, hcounts.2⟩

end Sys2Proof.Proofs.Gate

/-! # The controller: commands, sequencer steps and whole cycles (42_controller.md)

Each sequencer step is said once as a next state, and the laws of the cycle cite these. `withWindow` gathers the
registers that a window writes; `window_measured` takes the sequencer from IDLE around a window to MEASURED. An
iteration adds the steps back to IDLE (`afterIteration`), and `cycle_next` composes a cycle of them up to its last IDLE
step (`cycleAfter`). -/

namespace Sys2Proof.Proofs.Controller

open Sys2Proof.Machine Sys2Proof.Safety Sys2Proof.Proofs.Scope Sys2Proof.Proofs.StateRules Sys2Proof.Proofs.Encoding
  Sys2Proof.Proofs.Counter Sys2Proof.Proofs.Gate

/-! ## Commands (R91 to R93) -/

/-- Settles O18: a nonzero word whose low byte is 0 is above the six commands. -/
theorem nopCommand : Obligations.NopCommand := by
  refine ⟨decode_eq_ok_iff.mpr ⟨rfl, rfl, rfl⟩, rfl, fun s => rfl, fun v s hop hne => ?_⟩
  have hv : v.toNat ≠ 0 := fun h => hne (BitVec.eq_of_toNat_eq h)
  rw [decodeCmd_of_five_lt (by omega), exec_cmdReserved]

theorem runCmd_of_busy {s : State} (hb : s.busy = true) : runCmd s = s.setIll := by rw [runCmd, if_pos hb]

/-- The state in which a cycle starts (R92). -/
def started (s : State) : State :=
  { s with iter := 0, prevCorr := s.corr, abortCause := 0, seqState := 1, busResponse := some .writeOk
           out := s.out ++ startRecords s }

theorem exec_cmdRun_started {s : State} (hb : s.busy = false) : exec .cmdRun s = .next (started s) := by
  change Host.Outcome.next ((runCmd s).respond .writeOk) = _
  simp [runCmd, hb, started, startRecords, State.emit, State.goto, State.respond, SeqState.bits]

/-- Settles O19: BUSY decides between the refusal and the start of a cycle. -/
theorem runCommand : Obligations.RunCommand := by
  refine ⟨decode_eq_ok_iff.mpr ⟨rfl, rfl, rfl⟩, rfl, fun s => ?_⟩
  cases hb : s.busy with
  | true =>
    change Host.Outcome.next ((runCmd s).respond .writeOk) = _
    rw [runCmd_of_busy hb, if_pos rfl]; rfl
  | false => rw [exec_cmdRun_started hb, if_neg Bool.false_ne_true]; rfl

/-- Settles O20: both refusals are one test. -/
theorem snapshotCommand : Obligations.SnapshotCommand := by
  refine ⟨decode_eq_ok_iff.mpr ⟨rfl, rfl, rfl⟩, rfl, fun s => ?_⟩
  change Host.Outcome.next ((snapshotCmd s).respond .writeOk) = _
  simp only [snapshotCmd, Bool.or_eq_true]
  split <;> rfl

/-! ## TIMEOUT (R101) -/

/-- Settles O24: the strobe's test is the listed conjunction, and its update is that of an aborting fault. -/
theorem timeoutEvent : Obligations.TimeoutEvent := by
  refine ⟨decode_eq_ok_iff.mpr ⟨rfl, rfl, rfl⟩, rfl, fun s => ?_⟩
  change Host.Outcome.next (timeoutStrobe s) = _
  have htest : (s.timeoutEn && s.seqState == SeqState.waitingForWindow.bits && !s.pgComplete) = true ↔
      s.ctrl.getLsbD 2 = true ∧ s.seqState = 3 ∧ s.pgComplete = false := by
    simp only [Bool.and_eq_true, Bool.not_eq_true', beq_iff_eq, and_assoc]; rfl
  simp only [timeoutStrobe, htest, State.abortCycle_eq]
  split
  · simp [FaultKind.code, State.rcFreeze]
  · rfl

/-! ## The sequencer steps (R94 to R100) -/

/-- SEQ, and the row that names SEQ in the state `st`, take that state's step there (R66). -/
theorem exec_seqRow {i row : Instr} {s t : State} {st : SeqState} (hrow : exec row s = s.seqStepIn st t)
    (hseq : seqIn st s = .next t) (hi : i = .seq ∨ i = row) (hs : s.seqState = st.bits) : exec i s = .next t := by
  rcases hi with rfl | rfl
  · exact (exec_seq_of_state hs).trans hseq
  · exact hrow.trans (if_pos hs)

theorem idleStep_eq (s : State) :
    Machine.idleStep s = { s with seqState := if s.iter.toNat < s.iterCount.toNat then 2 else 7 } := by
  unfold Machine.idleStep
  split <;> rfl

/-- Settles O25: the step of IDLE, by `exec_seqRow`. -/
theorem idleStep : Obligations.IdleStep := by
  intro i s hi hs
  rw [exec_seqRow (st := .idle) rfl rfl hi hs, idleStep_eq]

/-- Settles O26: the two ways the step can go. -/
theorem armedStep : Obligations.ArmedStep := by
  intro i s hi hs
  rw [exec_seqRow (st := .armed) rfl rfl hi hs]
  rcases armedStep_cases s with ⟨hn, he⟩ | ⟨hn, he⟩
  · rw [he, if_neg (Nat.not_lt.mpr hn)]; rfl
  · rw [he, if_pos hn]

/-- Settles O27: PG_COMPLETE decides for SEQ and for its row alike. -/
theorem waitingStep : Obligations.WaitingStep := by
  intro i s hi hs
  refine ⟨fun hc => exec_seqRow (row := .seqWaiting) (st := .waitingForWindow) (if_pos hc) (if_pos hc) hi hs, fun hc => ?_⟩
  have hopen : ¬s.pgComplete = true := ne_true_of_eq_false hc
  rcases hi with rfl | rfl
  · exact (exec_seq_of_state (st := .waitingForWindow) hs).trans (if_neg hopen)
  · exact if_neg hopen

/-- Settles O28: the four ways the step can go. -/
theorem measuredStep : Obligations.MeasuredStep := by
  intro i s hi hs
  rw [exec_seqRow (st := .measured) rfl rfl hi hs]
  have hiter : s.iter.toNat = 0 ↔ s.iter = 0 := BitVec.toNat_inj (y := 0)
  have hmeas : s.meas.toNat = 0 ↔ s.meas = 0 := BitVec.toNat_inj (y := 0)
  rcases measuredStep_cases s with ⟨h0, he⟩ | ⟨h0, hm, ha, he⟩ | ⟨h0, hm, ha, he⟩ | ⟨h0, hm, he⟩
  · rw [he, if_pos (hiter.mpr h0)]
  · rw [he, if_neg (mt hiter.mp h0), if_pos (hmeas.mpr hm), if_pos (show s.ctrl.getLsbD 1 = true from ha)]
  · rw [he, if_neg (mt hiter.mp h0), if_pos (hmeas.mpr hm),
      if_neg (show ¬s.ctrl.getLsbD 1 = true from ne_true_of_eq_false ha)]
  · rw [he, if_neg (mt hiter.mp h0), if_neg (mt hmeas.mp hm)]

/-- Settles O29: Huff's comparison of patterns is `stepped`'s comparison of numbers. -/
theorem adjustingStep : Obligations.AdjustingStep := by
  intro i s hi hs
  rw [exec_seqRow (st := .adjusting) rfl rfl hi hs, adjustStep_eq, huff_eq]
  rfl

/-- Settles O30: the step of FAULTED, by `exec_seqRow`. -/
theorem faultedStep : Obligations.FaultedStep :=
  fun _ _ hi hs => exec_seqRow (st := .faulted) rfl rfl hi hs

/-- Settles O31: CLEANUP has no step, and the step of DONE is `doneStep_eq`. -/
theorem doneStep : Obligations.DoneStep := by
  refine ⟨fun s hs => exec_seq_of_state (st := .cleanup) hs, fun i s hi hs => ?_⟩
  rw [exec_seqRow (st := .done) rfl rfl hi hs, doneStep_eq]
  rfl

/-! ## The registers that a window writes -/

/-- `s` with the counter, the gate, the snapshot and MEAS of `g`. -/
def withWindow (g s : State) : State :=
  { s with
    rcCount := g.rcCount, rcOvf := g.rcOvf, rcRun := g.rcRun
    pgEdges := g.pgEdges, pgTrigEn := g.pgTrigEn, pgToggle := g.pgToggle, pgComplete := g.pgComplete
    snapRaw := g.snapRaw, snapOvf := g.snapOvf, meas := g.meas }

theorem refTick_eq_withWindow (s : State) : refTick s = withWindow (refTick s) s := by
  unfold refTick State.rcCountEdge
  split
  · rfl
  · split <;> rfl

theorem ppsEvent_eq_withWindow (s : State) (ev : PpsEvent) : s.ppsEvent ev = withWindow (s.ppsEvent ev) s := by
  rcases s.ppsEvent_cases ev with h | ⟨_, _, _, h⟩ | ⟨_, _, _, h⟩ | ⟨_, _, _, h⟩ <;> rw [h] <;> rfl

/-- A gate event writes nothing but the counter and the gate. -/
theorem exec_gateEvent_withWindow {i : Instr} {s t : State} (hi : isGateEvent i = true) (hx : exec i s = .next t) :
    t = withWindow t s := by
  rcases exec_gateEvent_cases hi hx with ⟨-, rfl⟩ | ⟨-, rfl⟩ | ⟨-, rfl⟩
  · exact refTick_eq_withWindow s
  · exact ppsEvent_eq_withWindow s .rise
  · exact ppsEvent_eq_withWindow s .fall

theorem runInstrs_gateEvents_withWindow {evs : List Instr} {s t : State} (hall : ∀ i ∈ evs, isGateEvent i = true)
    (hrun : runInstrs evs s = .next t) : ∃ g, t = withWindow g s := by
  induction evs generalizing s with
  | nil => cases hrun; exact ⟨t, rfl⟩
  | cons i is ih =>
    obtain ⟨hi, his⟩ := List.forall_mem_cons.mp hall
    obtain ⟨u, hx, hrun⟩ := runInstrs_cons_next hrun
    obtain ⟨g, rfl⟩ := ih his hrun
    exact ⟨g, by rw [exec_gateEvent_withWindow hi hx]; rfl⟩

/-! ## The sequencer graph (R106) -/

/-- Of the host accesses only RUN changes STATE (R92). -/
theorem hostEffect_seqState {i : Instr} {s u : State} (h : HostEffect i s u) :
    u.seqState = s.seqState ∨ (isCommand i .cmdRun 1 ∧ s.busy = false ∧ u.seqState = 1) := by
  cases h with
  | run hi hb => exact .inr ⟨hi, hb, rfl⟩
  | config r v => left; cases r <;> rfl
  | nothing | illegal | arm | armFails | snapshot | measure | adjust | adjustLoss | clear | corr => exact .inl rfl

/-- A used STATE that is not BUSY is STOPPED or CLEANUP (R31, R32). -/
theorem stopped_or_cleanup {s : State} (hu : s.seqState.toNat < 9) (hb : s.busy = false) :
    s.seqState = 0 ∨ s.seqState = 8 := by
  rcases s.busy_false_iff.mp hb with h | h
  · exact .inl (BitVec.eq_of_toNat_eq h)
  · exact .inr (BitVec.eq_of_toNat_eq (show s.seqState.toNat = 8 by omega))

theorem idleStep_edge {i : Instr} {s : State} (hi : i = .seq ∨ i = .seqIdle) (hs : s.seqState = 1) :
    isSeqEdge i s (Machine.idleStep s).seqState := by
  rw [idleStep_eq]
  refine .inl ⟨hi, hs, ?_⟩
  by_cases h : s.iter.toNat < s.iterCount.toNat
  · exact .inl ⟨h, if_pos h⟩
  · exact .inr ⟨Nat.le_of_not_lt h, if_neg h⟩

theorem armedStep_edge {i : Instr} {s : State} (hi : i = .seq ∨ i = .seqArmed) (hs : s.seqState = 2) :
    isSeqEdge i s (Machine.armedStep s).seqState := by
  refine .inr (.inl ⟨hi, hs, ?_⟩)
  rcases armedStep_cases s with ⟨hn, he⟩ | ⟨hn, he⟩ <;> rw [he]
  · exact .inl ⟨hn, rfl⟩
  · exact .inr ⟨hn, rfl⟩

theorem measuredStep_edge {i : Instr} {s : State} (hi : i = .seq ∨ i = .seqMeasured) (hs : s.seqState = 4) :
    isSeqEdge i s (Machine.measuredStep s).seqState := by
  refine .inr (.inr (.inr (.inl ⟨hi, hs, ?_⟩)))
  rcases measuredStep_cases s with ⟨h0, he⟩ | ⟨h0, hm, ha, he⟩ | ⟨h0, hm, ha, he⟩ | ⟨h0, hm, he⟩ <;> rw [he]
  · exact .inl ⟨h0, rfl⟩
  · exact .inr (.inl ⟨h0, hm, ha, rfl⟩)
  · exact .inr (.inr (.inl ⟨h0, hm, ha, rfl⟩))
  · exact .inr (.inr (.inr ⟨h0, hm, rfl⟩))

/-- Settles O49: each operation's effect keeps STATE or takes one of the edges. -/
theorem sequencerGraph : Obligations.SequencerGraph := by
  intro i s t hu h hne
  cases exec_effect h with
  | host r _ hx =>
    rcases hostEffect_seqState hx with he | ⟨hi, hb, h1⟩
    · exact absurd he hne
    · exact .inr (.inl ⟨hi, stopped_or_cleanup hu hb, h1⟩)
  | tick => exact absurd (congrArg State.seqState (refTick_eq_withWindow s)) hne
  | rise | fall => exact absurd (congrArg State.seqState (ppsEvent_eq_withWindow s _)) hne
  | timeout hi =>
    rcases timeoutStrobe_cases s with he | ⟨ha, hs, hc, he⟩
    · exact absurd (congrArg State.seqState he) hne
    · exact .inr (.inr (.inl ⟨hi, ha, hc, hs, congrArg State.seqState he⟩))
  | reset hi => exact .inl ⟨hi, rfl⟩
  | idle hi hs => exact .inr (.inr (.inr (idleStep_edge hi hs)))
  | armed hi hs => exact .inr (.inr (.inr (armedStep_edge hi hs)))
  | waiting hi hs hc => exact .inr (.inr (.inr (.inr (.inr (.inl ⟨hi, hs, hc, rfl⟩)))))
  | measured hi hs => exact .inr (.inr (.inr (measuredStep_edge hi hs)))
  | adjusting hi hs => exact .inr (.inr (.inr (.inr (.inr (.inr (.inr (.inl ⟨hi, hs, rfl⟩)))))))
  | faulted hi hs => exact .inr (.inr (.inr (.inr (.inr (.inr (.inr (.inr (.inl ⟨hi, hs, rfl⟩))))))))
  | done hi hs => exact .inr (.inr (.inr (.inr (.inr (.inr (.inr (.inr (.inr ⟨hi, hs, rfl⟩))))))))

/-! ## Runs -/

theorem runInstrs_cons_of_next {i : Instr} {s u : State} (h : exec i s = .next u) (is : List Instr) :
    runInstrs (i :: is) s = runInstrs is u := by
  rw [runInstrs, h]

theorem runInstrs_append_of_next {is : List Instr} {s u : State} (h : runInstrs is s = .next u) (js : List Instr) :
    runInstrs (is ++ js) s = runInstrs js u := by
  induction is generalizing s with
  | nil => cases h; rfl
  | cons i is ih =>
    obtain ⟨v, hx, hrun⟩ := runInstrs_cons_next h
    exact (runInstrs_cons_of_next hx (is ++ js)).trans (ih hrun)

/-! ## One window (R89, R114, R116) -/

/-- The sequencer is in IDLE, and its windows have edge mode `m` and `n` qualifying edges. -/
structure IdleFor (m : Bool) (n : Nat) (s : State) : Prop where
  state : s.seqState = 1
  mode : s.edgeMode = m
  length : s.windowN.toNat = n
  armable : 2 ≤ n

/-- The snapshot and MEAS of `g` are those of `T` counted edges, under the parameters and SCALE of `s` (R87, R108). -/
structure Measures (T : Nat) (s g : State) : Prop where
  snap : g.snapOvf.toNat * s.modulus + g.snapRaw.toNat = T % (s.modulus * 2 ^ 32)
  meas : g.meas.toNat = T % (s.modulus * 2 ^ 32) * s.scale.toNat

/-- MEAS holds the product whole, whatever W is (R109). -/
theorem measFreq_toNat_of_counts {T : Nat} {s : State} (h : Counts T s) :
    (measFreq s.modulus s.rcCount s.rcOvf s.scale).toNat = T % (s.modulus * 2 ^ 32) * s.scale.toNat := by
  obtain ⟨-, htally⟩ := h
  have hcount : s.rcCount.toNat + s.modulus * s.rcOvf.toNat = T % (s.modulus * 2 ^ 32) := by
    rw [← htally, tally, Nat.add_comm, Nat.mul_comm]
  have hlt : T % (s.modulus * 2 ^ 32) < 2 ^ 16 * 2 ^ 32 :=
    calc T % (s.modulus * 2 ^ 32) < s.modulus * 2 ^ 32 := Nat.mod_lt _ (Nat.mul_pos (modulus_pos s) (by decide))
      _ ≤ 2 ^ 16 * 2 ^ 32 := Nat.mul_le_mul_right _ s.modulus_bounds.2
  rw [measFreq, hcount, BitVec.toNat_ofNat, Nat.mod_eq_of_lt]
  exact (Nat.mul_lt_mul'' hlt s.scale.isLt).trans_eq rfl

theorem measures_of_counts {T : Nat} {s : State} (h : Counts T s) : Measures T s (waitStep s) :=
  ⟨h.2, measFreq_toNat_of_counts h⟩

section Iteration

variable {m : Bool} {n T : Nat} {s : State} {evs : List Instr}

/-- The IDLE and ARMED steps open the window, its events close it, and the WAITING_FOR_WINDOW step measures. -/
theorem window_measured (h : IdleFor m n s) (hi : s.iter.toNat < s.iterCount.toNat) (hw : WindowOf m n T evs) :
    ∃ g, Measures T s g ∧ ∀ js,
      runInstrs (.seq :: .seq :: (evs ++ .seq :: js)) s = runInstrs js (withWindow g { s with seqState := 4 }) := by
  obtain ⟨hs, rfl, rfl, hn⟩ := h
  have hidle : exec .seq s = .next { s with seqState := 2 } := by rw [idleStep .seq s (.inl rfl) hs, if_pos hi]
  have harm : exec .seq { s with seqState := 2 } = .next (s.armGate.goto .waitingForWindow) :=
    (armedStep .seq { s with seqState := 2 } (.inl rfl) rfl).trans (congrArg _ (if_neg (Nat.not_lt.mpr hn)))
  have hopen : WindowOpen s.edgeMode s.windowN.toNat 0 (s.armGate.goto .waitingForWindow) :=
    { armGate_windowOpen hn with }
  obtain ⟨v, hrun⟩ := runInstrs_gateEvents hw.1 (s.armGate.goto .waitingForWindow)
  obtain ⟨hclosed, hcounts⟩ := hopen.window hw hrun
  have hmeas : Measures T v (waitStep v) := measures_of_counts hcounts
  obtain ⟨g, rfl⟩ := runInstrs_gateEvents_withWindow hw.1 hrun
  have hwait := (waitingStep .seq _ (.inl rfl) rfl).1 hclosed.complete
  refine ⟨waitStep (withWindow g (s.armGate.goto .waitingForWindow)), { hmeas with }, fun js => ?_⟩
  rw [runInstrs_cons_of_next hidle, runInstrs_cons_of_next harm, runInstrs_append_of_next hrun,
    runInstrs_cons_of_next hwait]
  rfl

/-- Iteration 0 (R103). -/
theorem discardedIteration_next (h : IdleFor m n s) (h0 : s.iter = 0) (hi : 0 < s.iterCount.toNat)
    (hw : WindowOf m n T evs) :
    ∃ g, Measures T s g ∧
      runInstrs (discardedIteration evs) s = .next (withWindow g { s with iter := 1, seqState := 1 }) := by
  obtain ⟨g, hg, hrun⟩ := window_measured h (by rw [h0]; exact hi) hw
  have hiter : s.iter.toNat = 0 := congrArg BitVec.toNat h0
  have hskip := (measuredStep .seq (withWindow g { s with seqState := 4 }) (.inl rfl) rfl).trans
    (congrArg _ (if_pos hiter))
  exact ⟨g, hg, (hrun [.seq]).trans (runInstrs_cons_of_next hskip [])⟩

/-- An adjusting iteration's writes besides the window's: one step of CORR and its records (R98). -/
def afterIteration (s : State) (T : Nat) : State :=
  { s with
    iter := s.iter + 1, prevCorr := s.corr, seqState := 1
    corr := stepped s.corr (T * s.scale.toNat) s.target.toNat s.stepSize
    out := s.out ++ iterationRecords s s.iter.toNat s.corr T }

/-- An iteration from 1 on whose measurement is exact and not 0 (R114, R116). -/
theorem adjustingIteration_next (h : IdleFor m n s) (h1 : 1 ≤ s.iter.toNat) (hi : s.iter.toNat < s.iterCount.toNat)
    (hw : WindowOf m n T evs) (hT : T < s.modulus * 2 ^ 32) (hne : T * s.scale.toNat ≠ 0) :
    ∃ g, g.meas.toNat = T * s.scale.toNat ∧
      runInstrs (adjustingIteration evs) s = .next (withWindow g (afterIteration s T)) := by
  obtain ⟨g, hg, hrun⟩ := window_measured h hi hw
  have hm : g.meas.toNat = T * s.scale.toNat := by rw [hg.meas, Nat.mod_eq_of_lt hT]
  have hgo := (measuredStep .seq (withWindow g { s with seqState := 4 }) (.inl rfl) rfl).trans
    (congrArg _ ((if_neg (Nat.ne_of_gt h1)).trans (if_neg (hm.trans_ne hne))))
  have hadjust := adjustingStep .seq (withWindow g { s with seqState := 5 }) (.inl rfl) rfl
  refine ⟨g, hm, (hrun [.seq, .seq]).trans ?_⟩
  rw [runInstrs_cons_of_next hgo]
  refine (runInstrs_cons_of_next hadjust []).trans ?_
  simp only [afterIteration, iterationRecords, ← hm, BitVec.ofNat_toNat, BitVec.setWidth_eq]
  rfl

end Iteration

/-- Settles O57: `discardedIteration_next`, field by field. -/
theorem iterationZeroIsDiscarded : Obligations.IterationZeroIsDiscarded := by
  intro s T evs hs h0 hi hn hw
  obtain ⟨g, hg, hrun⟩ := discardedIteration_next ⟨hs, rfl, rfl, hn⟩ h0 hi hw
  exact ⟨_, hrun, rfl, rfl, hg.meas, hg.snap, rfl, rfl, rfl, rfl, rfl, rfl, rfl, rfl⟩

/-- Settles O58: `adjustingIteration_next`, field by field. -/
theorem iterationAdjustsOnce : Obligations.IterationAdjustsOnce := by
  intro s T evs hs h1 hi hn hw hT hne
  obtain ⟨g, hm, hrun⟩ := adjustingIteration_next ⟨hs, rfl, rfl, hn⟩ h1 hi hw hT hne
  exact ⟨_, hrun, rfl, byte_succ_toNat hi, hm, rfl, rfl, rfl⟩

/-! ## Whole cycles (R104, R105) -/

section Cycle

/-- An iteration's own writes do not depend on what its window leaves in the counter and the gate. -/
theorem foldl_afterIteration_withWindow (g s : State) (Ts : List Nat) :
    Ts.foldl afterIteration (withWindow g s) = withWindow g (Ts.foldl afterIteration s) :=
  List.foldl_hom (g₁ := afterIteration) (withWindow g) fun _ _ => rfl

variable {m : Bool} {n : Nat} {s : State}

/-- The adjusting iterations of a cycle, by induction on their windows. -/
theorem adjustingIterations_next {Ts : List Nat} {evss : List (List Instr)} (h : IdleFor m n s)
    (h1 : 1 ≤ s.iter.toNat) (hi : s.iter.toNat + evss.length ≤ s.iterCount.toNat)
    (hws : List.Forall₂ (WindowOf m n) Ts evss) (hTs : ∀ T ∈ Ts, T < s.modulus * 2 ^ 32 ∧ T * s.scale.toNat ≠ 0) :
    ∃ g, runInstrs (evss.flatMap adjustingIteration) s = .next (withWindow g (Ts.foldl afterIteration s)) := by
  induction hws generalizing s with
  | nil => exact ⟨s, rfl⟩
  | @cons T evs Ts evss hw _ ih =>
    obtain ⟨⟨hT, hne⟩, hTs⟩ := List.forall_mem_cons.mp hTs
    rw [List.length_cons] at hi
    have hlt : s.iter.toNat < s.iterCount.toNat := by omega
    obtain ⟨g₁, -, hfirst⟩ := adjustingIteration_next h h1 hlt hw hT hne
    have hiter : (s.iter + 1).toNat = s.iter.toNat + 1 := byte_succ_toNat hlt
    obtain ⟨g, hrest⟩ := ih (s := withWindow g₁ (afterIteration s T)) { h with state := rfl }
      (show 1 ≤ (s.iter + 1).toNat by omega) (show (s.iter + 1).toNat + evss.length ≤ s.iterCount.toNat by omega) hTs
    rw [foldl_afterIteration_withWindow] at hrest
    exact ⟨g, (runInstrs_append_of_next hfirst _).trans hrest⟩

/-- The registers that no window writes, between two iterations of the cycle that RUN started in `s`: iteration 0 and
one with each count of `Ts` have ended. -/
def cycleAfter (s : State) (Ts : List Nat) : State :=
  { started s with
    iter := BitVec.ofNat 8 (Ts.length + 1)
    corr := cycleCorr s s.corr Ts, prevCorr := cycleCorr s s.corr Ts.dropLast
    out := s.out ++ (startRecords s ++ cycleRecords s 1 s.corr Ts) }

theorem cycleCorr_append (s : State) (c : Word) (Ts : List Nat) (T : Nat) :
    cycleCorr s c (Ts ++ [T]) =
      stepped (cycleCorr s c Ts) (T * s.scale.toNat) s.target.toNat s.stepSize := by
  rw [cycleCorr, List.foldl_append]; rfl

theorem cycleRecords_append (s : State) (k : Nat) (c : Word) (Ts : List Nat) (T : Nat) :
    cycleRecords s k c (Ts ++ [T]) =
      cycleRecords s k c Ts ++ iterationRecords s (k + Ts.length) (cycleCorr s c Ts) T := by
  induction Ts generalizing k c with
  | nil => exact List.append_nil _
  | cons T' Ts ih =>
    rw [List.cons_append, cycleRecords, ih, cycleRecords, List.append_assoc, List.length_cons, Nat.add_assoc k,
      Nat.add_comm 1]
    rfl

/-- A record carries the index modulo 2^8 (R30). -/
theorem iterationRecords_mod (s : State) (k : Nat) (c : Word) (T : Nat) :
    iterationRecords s (BitVec.ofNat 8 k).toNat c T = iterationRecords s k c T := by
  rw [iterationRecords, BitVec.ofNat_toNat, BitVec.setWidth_eq]; rfl

theorem afterIteration_cycleAfter (s : State) (Ts : List Nat) (T : Nat) :
    afterIteration (cycleAfter s Ts) T = cycleAfter s (Ts ++ [T]) := by
  have hiter : BitVec.ofNat 8 ((Ts ++ [T]).length + 1) = BitVec.ofNat 8 (Ts.length + 1) + 1 := by
    rw [List.length_append, List.length_singleton, BitVec.ofNat_add]; rfl
  have hrecords : cycleRecords s 1 s.corr (Ts ++ [T]) = cycleRecords s 1 s.corr Ts ++
      iterationRecords s (BitVec.ofNat 8 (Ts.length + 1)).toNat (cycleCorr s s.corr Ts) T := by
    rw [cycleRecords_append, iterationRecords_mod, Nat.add_comm]
  simp only [cycleAfter, hiter, hrecords, cycleCorr_append, List.dropLast_concat, ← List.append_assoc]
  rfl

theorem foldl_afterIteration_cycleAfter (s : State) (Ts : List Nat) :
    Ts.foldl afterIteration (cycleAfter s []) = cycleAfter s Ts := by
  induction Ts using List.reverseRecOn with
  | nil => rfl
  | append_singleton Ts T ih =>
    rw [List.foldl_append, ih]
    exact afterIteration_cycleAfter s Ts T

/-- A cycle up to the IDLE step that ends it or begins one more iteration. -/
theorem cycle_next {T₀ : Nat} {evs₀ : List Instr} {Ts : List Nat} {evss : List (List Instr)} (hb : s.busy = false)
    (hn : 2 ≤ s.windowN.toNat) (hi : evss.length + 1 ≤ s.iterCount.toNat)
    (hw₀ : WindowOf s.edgeMode s.windowN.toNat T₀ evs₀)
    (hws : List.Forall₂ (WindowOf s.edgeMode s.windowN.toNat) Ts evss)
    (hTs : ∀ T ∈ Ts, T < s.modulus * 2 ^ 32 ∧ T * s.scale.toNat ≠ 0) :
    ∃ g, ∀ js, runInstrs (.cmdRun :: (discardedIteration evs₀ ++ (evss.flatMap adjustingIteration ++ js))) s =
      runInstrs js (withWindow g (cycleAfter s Ts)) := by
  obtain ⟨g₀, -, hdiscard⟩ := discardedIteration_next (s := started s) ⟨rfl, rfl, rfl, hn⟩ rfl
    (show 0 < s.iterCount.toNat by omega) hw₀
  obtain ⟨g, hadjust⟩ := adjustingIterations_next (s := withWindow g₀ (cycleAfter s [])) ⟨rfl, rfl, rfl, hn⟩
    (Nat.le_refl 1) (show 1 + evss.length ≤ s.iterCount.toNat by omega) hws hTs
  rw [foldl_afterIteration_withWindow, foldl_afterIteration_cycleAfter] at hadjust
  refine ⟨g, fun js => ?_⟩
  rw [runInstrs_cons_of_next (exec_cmdRun_started hb), runInstrs_append_of_next hdiscard]
  exact runInstrs_append_of_next hadjust js

/-- With no iteration left the IDLE and DONE steps end the cycle (R94, R100). -/
theorem idle_ends (hs : s.seqState = 1) (hi : s.iterCount.toNat ≤ s.iter.toNat) :
    runInstrs [.seq, .seq] s = .next { s with seqState := 8, out := s.out ++ cleanupRecords s } := by
  have hidle : exec .seq s = .next { s with seqState := 7 } := by
    rw [idleStep .seq s (.inl rfl) hs, if_neg (Nat.not_lt.mpr hi)]
  rw [runInstrs_cons_of_next hidle]
  exact runInstrs_cons_of_next (doneStep.2 .seq { s with seqState := 7 } (.inl rfl) rfl) []

/-- A window that measures 0 on an iteration from 1 on, with ABORT_ON_LOSS = 1: the cycle goes through FAULTED and DONE
to CLEANUP (R97, R99, R100). -/
theorem lossIteration_ends {T : Nat} {evs : List Instr} (h : IdleFor m n s) (h0 : s.iter.toNat ≠ 0)
    (hi : s.iter.toNat < s.iterCount.toNat) (ha : s.abortOnLoss = true) (hw : WindowOf m n T evs)
    (hz : T % (s.modulus * 2 ^ 32) * s.scale.toNat = 0) :
    ∃ g, runInstrs (discardedIteration evs ++ [.seq, .seq]) s = .next (withWindow g { s with
      slf := true, abortCause := 1, seqState := 8, out := s.out ++ (.logFault 1 s.iter :: cleanupRecords s) }) := by
  obtain ⟨g, hg, hrun⟩ := window_measured h hi hw
  have hloss := (measuredStep .seq (withWindow g { s with seqState := 4 }) (.inl rfl) rfl).trans
    (congrArg _ ((if_neg h0).trans ((if_pos (hg.meas.trans hz)).trans (if_pos ha))))
  have hlist : discardedIteration evs ++ [.seq, .seq] = .seq :: .seq :: (evs ++ .seq :: [.seq, .seq, .seq]) := by
    simp [discardedIteration]
  refine ⟨g, ?_⟩
  rw [hlist, hrun, runInstrs_cons_of_next hloss, runInstrs_cons_of_next (faultedStep .seq _ (.inl rfl) rfl),
    runInstrs_cons_of_next (doneStep.2 .seq _ (.inl rfl) rfl)]
  simp only [runInstrs, withWindow, cleanupRecords, List.append_assoc, List.singleton_append]

end Cycle

/-- The IDLE step after the iterations with the counts `Ts` sees the index `Ts.length + 1` (R104). -/
theorem iter_cycleAfter {Ts : List Nat} {k : Nat} {c : Byte} (s : State) (hk : Ts.length + 1 = k)
    (hc : k ≤ c.toNat) : (cycleAfter s Ts).iter.toNat = k := by
  subst hk
  exact BitVec.toNat_ofNat .. |>.trans (Nat.mod_eq_of_lt (Nat.lt_of_le_of_lt hc c.isLt))

/-- Settles O59: without iterations RUN leads to DONE at once; otherwise the cycle goes as `cycle_next` says and ends
where the index has reached ITER_COUNT. -/
theorem normalCycle : Obligations.NormalCycle := by
  refine ⟨fun s hb hi => ?_, fun s T₀ evs₀ Ts evss hb hn hi hw₀ hws hTs => ?_⟩
  · rw [runInstrs_cons_of_next (exec_cmdRun_started hb), idle_ends rfl (le_of_eq (congrArg BitVec.toNat hi)),
      ← List.append_assoc]
    rfl
  · obtain ⟨g, hrun⟩ := cycle_next hb hn (le_of_eq hi.symm) hw₀ hws hTs
    have hiter : (cycleAfter s Ts).iter.toNat = s.iterCount.toNat :=
      iter_cycleAfter s (by rw [hws.length_eq, hi]) (Nat.le_refl _)
    have hend := idle_ends (s := withWindow g (cycleAfter s Ts)) rfl (le_of_eq hiter.symm)
    have hout : (cycleAfter s Ts).out ++ cleanupRecords s =
        s.out ++ (startRecords s ++ (cycleRecords s 1 s.corr Ts ++ cleanupRecords s)) := by
      simp only [cycleAfter, List.append_assoc]
    exact ⟨_, (hrun _).trans hend, rfl, BitVec.eq_of_toNat_eq hiter, rfl, rfl, hout, rfl, rfl, rfl, rfl, rfl⟩

/-- Settles O60: the cycle goes as `cycle_next` says up to iteration k, which `lossIteration_ends` takes to CLEANUP. -/
theorem signalLossAbortsTheCycle : Obligations.SignalLossAbortsTheCycle := by
  intro s T₀ evs₀ Ts evss T evs hb hn ha hi hw₀ hws hTs hw hz
  obtain ⟨g, hrun⟩ := cycle_next hb hn hi.le hw₀ hws hTs
  have hiter : (cycleAfter s Ts).iter.toNat = evss.length + 1 := iter_cycleAfter s (by rw [hws.length_eq]) hi.le
  obtain ⟨g', hloss⟩ := lossIteration_ends (s := withWindow g (cycleAfter s Ts)) ⟨rfl, rfl, rfl, hn⟩
    (hiter.trans_ne (Nat.succ_ne_zero _)) (hiter.trans_lt hi) ha hw hz
  have hout : (cycleAfter s Ts).out ++ (.logFault 1 (BitVec.ofNat 8 (Ts.length + 1)) :: cleanupRecords s) =
      s.out ++ (startRecords s ++ (cycleRecords s 1 s.corr Ts ++
        (.logFault 1 (BitVec.ofNat 8 (evss.length + 1)) :: cleanupRecords s))) := by
    simp only [cycleAfter, List.append_assoc, hws.length_eq]
  exact ⟨_, (hrun _).trans hloss, rfl, hiter, rfl, rfl, rfl, hout⟩

end Sys2Proof.Proofs.Controller

/-! # Arithmetic (43_arithmetic.md)

A count is a number of `W + 32` bits and SCALE has 16, so the 64 bits of MEAS hold the product whole for every legal
`W`. The Huff-n-Puff step is read on integers through `stepped`. -/

namespace Sys2Proof.Proofs.Arithmetic

open Sys2Proof.Machine Sys2Proof.Safety Sys2Proof.Proofs.Encoding

/-! ## MeasFreq (R108, R109) -/

section MeasFreq

variable {W : Nat} {raw : BitVec 16}

/-- The pair (raw count, overflow count) as one number has `W + 32` bits (R108). -/
theorem rawCount_lt (ovf : BitVec 32) (hraw : raw.toNat < 2 ^ W) :
    raw.toNat + 2 ^ W * ovf.toNat < 2 ^ (W + 32) :=
  calc raw.toNat + 2 ^ W * ovf.toNat < 2 ^ W * 2 ^ 32 := Nat.add_mul_lt_mul_of_lt_of_lt hraw ovf.isLt
    _ = 2 ^ (W + 32) := (Nat.pow_add 2 W 32).symm

/-- SCALE adds 16 bits to the count (R109). -/
theorem scaledCount_lt (ovf : BitVec 32) (scale : BitVec 16) (hraw : raw.toNat < 2 ^ W) :
    (raw.toNat + 2 ^ W * ovf.toNat) * scale.toNat < 2 ^ (W + 48) :=
  calc (raw.toNat + 2 ^ W * ovf.toNat) * scale.toNat < 2 ^ (W + 32) * 2 ^ 16 :=
        Nat.mul_lt_mul'' (rawCount_lt ovf hraw) scale.isLt
    _ = 2 ^ (W + 48) := (Nat.pow_add 2 (W + 32) 16).symm

end MeasFreq

/-- Settles O44: the product has `W + 48` bits, at most the 64 that it is cut to. -/
theorem measFreqIsExact : Obligations.MeasFreqIsExact := by
  intro W raw ovf scale _ hW hraw
  have hfits : 2 ^ (W + 48) ≤ 2 ^ 64 := Nat.pow_le_pow_right (by decide) (by omega)
  have hprod := scaledCount_lt ovf scale hraw
  refine ⟨?_, Nat.le_sub_one_of_lt (rawCount_lt ovf hraw), hprod, hfits⟩
  rw [measFreq, BitVec.toNat_ofNat, Nat.mod_eq_of_lt (hprod.trans_le hfits)]

/-! ## Huff (R112, R115) -/

/-- STEP is an unsigned number: widened to CORR's 32 bits it never reads as negative (R112). -/
theorem toInt_setWidth_step (step : BitVec 16) : (step.setWidth 32).toInt = step.toNat := by
  have hlt := step.isLt
  have hnat : (step.setWidth 32).toNat = step.toNat := BitVec.toNat_setWidth_of_le (by decide)
  rw [BitVec.toInt_eq_toNat_of_lt (by omega), hnat]

/-- Settles O45: `stepped` makes the comparison, and a sum or difference of words is that of their signed values,
wrapped. -/
theorem huffStepsBySign : Obligations.HuffStepsBySign := by
  intro corr meas target step
  rw [huff_eq, stepped]
  split
  · rw [BitVec.toInt_sub, toInt_setWidth_step]
  · split
    · rw [BitVec.toInt_add, toInt_setWidth_step]
    · rfl

/-! ## The commands (R111, R113) -/

/-- Settles O21: BUSY decides between the refusal and the measurement, whose modulus is `2 ^ W`. -/
theorem measureCommand : Obligations.MeasureCommand := by
  refine ⟨decode_eq_ok_iff.mpr ⟨rfl, rfl, rfl⟩, rfl, fun s => ?_⟩
  change Host.Outcome.next ((measureCmd s).respond .writeOk) = _
  rw [measureCmd]
  split <;> rfl

/-- Settles O22: BUSY is looked at before MEAS = 0, and the step is `stepped`. -/
theorem adjustCommand : Obligations.AdjustCommand := by
  refine ⟨decode_eq_ok_iff.mpr ⟨rfl, rfl, rfl⟩, rfl, fun s => ?_⟩
  change Host.Outcome.next ((adjustCmd s).respond .writeOk) = _
  have hmeas : s.meas.toNat = 0 ↔ s.meas = 0 := BitVec.toNat_inj (y := 0)
  simp only [adjustCmd, hmeas]
  split
  · rfl
  · split
    · rfl
    · rw [State.adjust, huff_eq]; rfl

end Sys2Proof.Proofs.Arithmetic

/-! # Exceptions (60_exceptions.md)

Three steps can enter FAULTED (`faultingStep_of_enters`): the TIMEOUT strobe, a failed arm and a measurement of 0. What
each of them writes on entering is read off its cases. -/

namespace Sys2Proof.Proofs.Exceptions

open Sys2Proof.Machine Sys2Proof.Safety
open Sys2Proof.Proofs.Controller (hostEffect_seqState idleStep_eq refTick_eq_withWindow ppsEvent_eq_withWindow)

/-! ## The steps that enter FAULTED (R117, R125) -/

/-- No host access enters FAULTED: RUN leads to IDLE, and the others keep STATE. -/
theorem hostEffect_not_enters {i : Instr} {s u : State} (h : HostEffect i s u) (hs : s.seqState ≠ 6) :
    u.seqState ≠ 6 := by
  rcases hostEffect_seqState h with he | ⟨-, -, he⟩ <;> rw [he]
  · exact hs
  · decide

theorem idleStep_not_enters (s : State) : (idleStep s).seqState ≠ 6 := by
  rw [idleStep_eq]
  dsimp only
  split <;> decide

/-- A step that enters FAULTED is one of the three that detect a fault. -/
theorem faultingStep_of_enters {i : Instr} {s t : State} (h : ExecEffect i s t) (hs : s.seqState ≠ 6)
    (ht : t.seqState = 6) : t = measuredStep s ∨ t = timeoutStrobe s ∨ t = armedStep s := by
  cases h with
  | measured => exact .inl rfl
  | timeout => exact .inr (.inl rfl)
  | armed => exact .inr (.inr rfl)
  | host _ _ hu => exact (hostEffect_not_enters hu hs ht).elim
  | tick => exact absurd ((congrArg State.seqState (refTick_eq_withWindow s)).symm.trans ht) hs
  | rise | fall => exact absurd ((congrArg State.seqState (ppsEvent_eq_withWindow s _)).symm.trans ht) hs
  | idle => exact absurd ht (idleStep_not_enters s)
  | adjusting => simp [adjustStep_eq] at ht
  | done => simp [doneStep_eq] at ht
  | faulted _ h6 => exact absurd h6 hs
  | reset => simp [State.resetBlock_eq, State.reset] at ht
  | waiting => simp [waitStep_eq] at ht

/-! ## What each of them writes on entering -/

/-- Signal loss (R97). -/
theorem measuredStep_entry {s : State} (ht : (measuredStep s).seqState = 6) : measuredStep s = { s with
    seqState := 6, slf := true, abortCause := 1, out := s.out ++ [.logFault 1 s.iter] } := by
  rcases measuredStep_cases s with ⟨-, he⟩ | ⟨-, -, -, he⟩ | ⟨-, -, -, he⟩ | ⟨-, -, he⟩
  · simp [he] at ht
  · exact he
  · simp [he] at ht
  · simp [he] at ht

/-- The sampling timeout, which abandons the window (R101). -/
theorem timeoutStrobe_entry {s : State} (hs : s.seqState ≠ 6) (ht : (timeoutStrobe s).seqState = 6) :
    timeoutStrobe s = { s with
      seqState := 6, stf := true, abortCause := 2, out := s.out ++ [.logFault 2 s.iter]
      rcRun := false, pgTrigEn := false } := by
  rcases timeoutStrobe_cases s with he | ⟨-, -, -, he⟩
  · rw [he] at ht; exact absurd ht hs
  · exact he

/-- The failed arm of a cycle (R95). -/
theorem armedStep_entry {s : State} (ht : (armedStep s).seqState = 6) : armedStep s = { s with
    seqState := 6, hif := true, abortCause := 3, out := s.out ++ [.logFault 3 s.iter] } := by
  rcases armedStep_cases s with ⟨-, he⟩ | ⟨-, he⟩
  · simp [he, SeqState.bits] at ht
  · exact he

/-- Settles O55: the step is one of the three that detect a fault, and each makes its own writes on entering. -/
theorem faultEntryIsPrecise : Obligations.FaultEntryIsPrecise := by
  intro i s t h hs ht
  rcases faultingStep_of_enters (exec_effect h) hs ht with rfl | rfl | rfl
  · exact .inl (measuredStep_entry ht)
  · exact .inr (.inl (timeoutStrobe_entry hs ht))
  · exact .inr (.inr (armedStep_entry ht))

end Sys2Proof.Proofs.Exceptions

/-! # Reset (70_reset_and_hazards.md)

RESET is one update of the state (`exec_reset_eq`), the reset values with the parameters, the trace and the
environment's side kept. Both the reset law and the power-on law are read off it. -/

namespace Sys2Proof.Proofs.Reset

open Sys2Proof.Machine Sys2Proof.Proofs.Encoding

/-- RESET is effective in every state (R133). -/
theorem exec_reset_eq (s : State) : exec .reset s = .next
    { State.reset with widthLess1 := s.widthLess1, basePage := s.basePage, out := s.out,
                       busResponse := s.busResponse, pending := s.pending } :=
  congrArg Host.Outcome.next (State.resetBlock_eq s)

/-- Settles O34: the values that `State.reset` names are those of R133. -/
theorem resetInput : Obligations.ResetInput :=
  ⟨decode_eq_ok_iff.mpr ⟨rfl, rfl, rfl⟩, rfl, exec_reset_eq⟩

/-- Settles O35: what RESET keeps, the state already shares with power-on. -/
theorem powerOnIsReset : Obligations.PowerOnIsReset := by
  refine ⟨rfl, rfl, rfl, rfl, rfl, fun s hwidth hbase hout hresp hpending => ?_⟩
  rw [exec_reset_eq, hwidth, hbase, hout, hresp, hpending]
  rfl

end Sys2Proof.Proofs.Reset
